-- ==== Sys2Proof/Word.lean ====
section
/-! DEFINITION. Word types: the host's 32-bit access (R6, R62) and the 8-bit byte of a frame and of a buffer entry (R5). -/

namespace Sys2Proof

/-- A command word and the value of one host access (R6 HOST_DATA_WIDTH, R80). -/
abbrev Word := BitVec 32

/-- One byte on the wire or in a buffer (R5 BYTE_BITS, R42). -/
abbrev Byte := BitVec 8

end Sys2Proof
end

