-- ==== Sys2Proof/Config.lean ====
section
/-! DEFINITION. The OPEN parameters of R7 and the free values: what the spec leaves open (log 2, 3, 4, 5). -/

namespace Sys2Proof

/-- The OPEN parameters of R7 (I17). A model takes each as an argument: a state carries one parameter set,
no step writes it, and a statement over every state ranges over every set (log 2). -/
structure Params where
  /-- F_TCLK, the tick source's input clock in Hz, a positive integer. -/
  fTclk  : Nat
  /-- DIV_MIN, the smallest divisor, at least 2 (R29). -/
  divMin : Nat
  /-- DIV_MAX, the largest divisor, at least DIV_MIN. -/
  divMax : Nat
  /-- BASE, the host address of the register window. No rule depends on it. -/
  base   : Nat
deriving DecidableEq, Repr

/-- The bounds R7 puts on the parameters. `divMax < 2^32` is DEDUCED from the 32 bits of `S.div` (R38; log 3). -/
abbrev Params.wf (p : Params) : Prop :=
  0 < p.fTclk ∧ 2 ≤ p.divMin ∧ p.divMin ≤ p.divMax ∧ p.divMax < 2 ^ 32

namespace Config

/-- F_TCLK - 1, uninterpreted. -/
opaque fTclkPred : Nat
/-- DIV_MIN before its lower bound is applied, uninterpreted. -/
opaque divMinRaw : BitVec 32
/-- DIV_MAX before its lower bound is applied, uninterpreted. -/
opaque divMaxRaw : BitVec 32
/-- BASE, uninterpreted. -/
opaque base : Nat

/-- The parameter set of the machine after reset: any set R7 admits, and nothing says which (log 2, 3). -/
def params : Params where
  fTclk  := fTclkPred + 1
  divMin := max 2 divMinRaw.toNat
  divMax := max (max 2 divMinRaw.toNat) divMaxRaw.toNat
  base   := base

/-- I1: the draw of TXBUF entry `index` made at reset number `draw` (log 4). Uninterpreted. -/
opaque freeTx (draw index : Nat) : Byte
/-- I1: the draw of RXBUF entry `index` made at reset number `draw` (log 4). Uninterpreted. -/
opaque freeRx (draw index : Nat) : Byte

/-- R54: `E.sda_low` after reset is "not block state; any value" (log 5). Uninterpreted. -/
opaque sdaLowAtReset : Bool
/-- R54: `E.scl_low` after reset is "not block state; any value" (log 5). Uninterpreted. -/
opaque sclLowAtReset : Bool

end Config

end Sys2Proof
end

