-- ==== Sys2Proof/Syntax.lean ====
section
/-! DEFINITION. The six commands (R82), one constructor per row of opcode_table.json. -/

namespace Sys2Proof

/-- The direction bit of an address frame: "0 = write, 1 = read" (R5, R81). -/
inductive Mode
  | write
  | read
deriving DecidableEq, Repr

/-- A command with its operands (R81). -/
inductive Instr
  /-- INIT, OP 0x1 (R176): the bus frequency in Hz. -/
  | init (freq : BitVec 24)
  /-- BEGIN, OP 0x2 (R177). -/
  | beginTx (sa : BitVec 7) (ra : Byte) (mode : Mode)
  /-- RSTART, OP 0x3 (R178). -/
  | rstart (sa : BitVec 7) (mode : Mode)
  /-- WRITE, OP 0x4 (R179): the number of TXBUF bytes to send. -/
  | write (count : BitVec 9)
  /-- READ, OP 0x5 (R180): the number of bytes to receive and the declared capacity. -/
  | read (count cap : BitVec 9)
  /-- END, OP 0x6 (R181). -/
  | endTx
deriving DecidableEq, Repr

end Sys2Proof
end

