-- ==== Sys2Proof/WellFormed.lean ====
section
/-! DEFINITION. The extra field conditions of R82: what a command's operands must satisfy beyond their widths. -/

namespace Sys2Proof

/-- R82's last column: COUNT ≤ 256 for WRITE, and 1 ≤ COUNT ≤ 256, CAP ≤ 256 for READ. -/
def Instr.wf : Instr → Bool
  | .init _        => true
  | .beginTx _ _ _ => true
  | .rstart _ _    => true
  | .write count   => count ≤ 256#9
  | .read count cap => 1#9 ≤ count && count ≤ 256#9 && cap ≤ 256#9
  | .endTx         => true

end Sys2Proof
end

