-- ==== Sys2Proof/Decode.lean ====
section
/-! DEFINITION. The command decoder of R84, total on every 32-bit word, and the encoder of R80 and R86. -/

namespace Sys2Proof

/-- Why a word is illegal: the clauses of R83. -/
inductive Illegal
  /-- R83(a): OP is 0x0 or 0x7–0xF. -/
  | reservedOp
  /-- R83(b): a bit outside the fields of a defined OP is 1. -/
  | reservedBits
  /-- R83(c), (d): COUNT > 256. -/
  | countTooLarge
  /-- R83(d): READ with COUNT = 0. -/
  | countZero
  /-- R83(d): READ with CAP > 256. -/
  | capTooLarge
deriving DecidableEq, Repr

/-- The direction bit as R81 numbers it. -/
def Mode.bit : Mode → BitVec 1
  | .write => 0#1
  | .read  => 1#1

/-- The direction a MODE bit stands for (R81). -/
def Mode.ofBit (b : BitVec 1) : Mode := if b = 1#1 then .read else .write

/-! The fields of R81. -/

/-- OP = cmd[3:0] (R80). -/
def Word.op (w : Word) : BitVec 4 := w.extractLsb' 0 4
/-- FREQ = cmd[27:4]. -/
def Word.freq (w : Word) : BitVec 24 := w.extractLsb' 4 24
/-- SA = cmd[10:4]. -/
def Word.sa (w : Word) : BitVec 7 := w.extractLsb' 4 7
/-- MODE = cmd[11]. -/
def Word.mode (w : Word) : Mode := Mode.ofBit (w.extractLsb' 11 1)
/-- RA = cmd[19:12]. -/
def Word.ra (w : Word) : Byte := w.extractLsb' 12 8
/-- COUNT = cmd[12:4]. -/
def Word.count (w : Word) : BitVec 9 := w.extractLsb' 4 9
/-- CAP = cmd[21:13]. -/
def Word.cap (w : Word) : BitVec 9 := w.extractLsb' 13 9

/-- The decoder of R84: one of the six commands with its fields, or illegal, with the clause of R83 that says why.
OP is tested first, then the reserved bits, then the field conditions. -/
def decode (w : Word) : Except Illegal Instr :=
  if Word.op w = 1#4 then
    if w.extractLsb' 28 4 = 0#4 then .ok (.init (Word.freq w)) else .error .reservedBits
  else if Word.op w = 2#4 then
    if w.extractLsb' 20 12 = 0#12 then .ok (.beginTx (Word.sa w) (Word.ra w) (Word.mode w)) else .error .reservedBits
  else if Word.op w = 3#4 then
    if w.extractLsb' 12 20 = 0#20 then .ok (.rstart (Word.sa w) (Word.mode w)) else .error .reservedBits
  else if Word.op w = 4#4 then
    if w.extractLsb' 13 19 = 0#19 then
      if Word.count w ≤ 256#9 then .ok (.write (Word.count w)) else .error .countTooLarge
    else .error .reservedBits
  else if Word.op w = 5#4 then
    if w.extractLsb' 22 10 = 0#10 then
      if Word.count w = 0#9 then .error .countZero
      else if 256#9 < Word.count w then .error .countTooLarge
      else if 256#9 < Word.cap w then .error .capTooLarge
      else .ok (.read (Word.count w) (Word.cap w))
    else .error .reservedBits
  else if Word.op w = 6#4 then
    if w.extractLsb' 4 28 = 0#28 then .ok .endTx else .error .reservedBits
  else .error .reservedOp

/-- A field of a word with its bit 0 at bit `lo`. -/
def fieldAt {n : Nat} (x : BitVec n) (lo : Nat) : Word := x.setWidth 32 <<< lo

/-- The word of a command: R86's formulas, which place the fields as R80's patterns do. -/
def encode : Instr → Word
  | .init freq          => fieldAt freq 4 ||| 1#32
  | .beginTx sa ra mode => fieldAt ra 12 ||| fieldAt mode.bit 11 ||| fieldAt sa 4 ||| 2#32
  | .rstart sa mode     => fieldAt mode.bit 11 ||| fieldAt sa 4 ||| 3#32
  | .write count        => fieldAt count 4 ||| 4#32
  | .read count cap     => fieldAt cap 13 ||| fieldAt count 4 ||| 5#32
  | .endTx              => 6#32

/-- A row of R82's table: the word is this command's when `w &&& mask = word` and the field conditions hold. -/
structure Row where
  mask : Word
  word : Word
deriving DecidableEq, Repr

/-- R82's mask and match of each command. -/
def Instr.row : Instr → Row
  | .init _        => ⟨0xF000000F#32, 0x00000001#32⟩
  | .beginTx _ _ _ => ⟨0xFFF0000F#32, 0x00000002#32⟩
  | .rstart _ _    => ⟨0xFFFFF00F#32, 0x00000003#32⟩
  | .write _       => ⟨0xFFFFE00F#32, 0x00000004#32⟩
  | .read _ _      => ⟨0xFFC0000F#32, 0x00000005#32⟩
  | .endTx         => ⟨0xFFFFFFFF#32, 0x00000006#32⟩

/-- The command a table word of `nbits` bits decodes to, bits above `nbits` being 0. Every command is one 32-bit word
(R85), handed over whole: there are no bytes to lay out (R66, R67). -/
def decodeTableWord (nbits w : Nat) : Option Instr :=
  (decode (BitVec.ofNat 32 (w % 2 ^ nbits))).toOption

end Sys2Proof
end

