-- ==== Sys2Proof/Machine/State.lean ====
section
/-! DEFINITION. The state of the engine (R20–R54), the reasons a step can stop, and the state right after reset (R54, R250). -/

namespace Sys2Proof.Machine

/-- The SDA line-driver state (R34). Code 3 does not exist (I16). -/
inductive SdaDrv
  /-- Code 0: released as input. -/
  | hiz
  /-- Code 1: output, pulled low. -/
  | low
  /-- Code 2: output high, which floats under open-drain. -/
  | high
deriving DecidableEq, Repr

/-- The transaction state (R36), in the order of its codes 0..7. -/
inductive TxState
  | idle
  | startCondition
  | addressPhase
  | writeRegisterPhase
  | repeatedStart
  | readRegisterPhase
  | payloadPhase
  | stopCondition
deriving DecidableEq, Repr

/-- The result codes 0..9 of R220. Codes 10–15 do not exist (I15). -/
inductive ResultCode
  | ok
  | noAck
  | maxRetriesExceeded
  | busBusy
  | bufferTooSmall
  | clockStretchTimeout
  | unsupportedFrequency
  | notConfigured
  | noTransaction
  | illegalCommand
deriving DecidableEq, Repr

/-- Which command performs a repeated start and sends the address frame after it (R174). -/
inductive Restart
  /-- RSTART (R178). -/
  | rstart
  /-- READ (R180). -/
  | read
deriving DecidableEq, Repr

/-- The frames the engine transmits: eight bits and an acknowledgement check (R144, R145). -/
inductive Frame
  /-- BEGIN's address frame (R177). -/
  | beginAddr
  /-- BEGIN's register byte (R177). -/
  | beginReg
  /-- The address frame after a repeated start (R178, R180). -/
  | restartAddr (by_ : Restart)
  /-- A payload byte of WRITE (R179). -/
  | payload
deriving DecidableEq, Repr

/-- `S.upc`, the position in the running routine (R31, R43): no routine, the dispatch step, or the await the routine
stands at (log 9). `k` is the index of the bit in hand, 7 first. -/
inductive Upc
  | noRoutine
  | dispatch
  /-- `set_bit` of bit `k`: await LOW, then drive (R141). -/
  | bitLow (f : Frame) (k : Fin 8)
  /-- `set_bit` of bit `k`: await HIGH (R141). -/
  | bitHigh (f : Frame) (k : Fin 8)
  /-- `ack_check`: await LOW, then release (R143). -/
  | ackLow (f : Frame)
  /-- `ack_check`: await HIGH, then sample (R143). -/
  | ackHigh (f : Frame)
  /-- `ack_check`: await LOW, then return `S.ackr` (R143). -/
  | ackEnd (f : Frame)
  /-- `rs_condition`: await LOW, then release (R174). -/
  | rsLow (by_ : Restart)
  /-- `rs_condition`: await HIGH, then pull low (R174). -/
  | rsHigh (by_ : Restart)
  /-- `read_bit` of bit `k`: await HIGH, then sample (R142, R146). -/
  | rxHigh (k : Fin 8)
  /-- `read_bit` of bit `k`: await LOW, then return the sampled bit (R142, R146). -/
  | rxLow (k : Fin 8) (bit : Bool)
  /-- `drive_ack`: await LOW, then drive (R147). -/
  | mackLow
  /-- `drive_ack`: await HIGH (R147). -/
  | mackHigh
  /-- `drive_ack`: await LOW, then release (R147). -/
  | mackEnd
  /-- `stop_condition`: await LOW, then pull low; `code` is what the command completes with (R175, R225). -/
  | stopLow (code : ResultCode)
  /-- `stop_condition`: await HIGH, then release, disable, Idle, complete (R175, R225). -/
  | stopHigh (code : ResultCode)
deriving DecidableEq, Repr

/-- One move of the interleaving (R20, R70; log 1): which agent steps next, with the data the outside world supplies. -/
inductive Move
  /-- The block's own step: Sequencer if enabled, else Tick if enabled (R22, R23, R29). -/
  | block
  /-- One cycle of `clk` (R103; log 6). -/
  | clk
  /-- A host read (R21). -/
  | hostRead (off : BitVec 12)
  /-- A host write (R21). -/
  | hostWrite (off : BitVec 12) (v : Word)
  /-- R87's POLL: read STATUS until RUN = 0 (log 15). -/
  | poll
  /-- An Environment step (R27). -/
  | env (sdaLow sclLow : Bool)
  /-- The reset input `rst_n` takes a level (R24, R250). -/
  | rst (level : Bool)
deriving DecidableEq, Repr

/-- A buffer's written entries as index and byte (R42). An entry not listed holds no value (R42, I1). -/
abbrev Memory := List Host.Cell

/-- The state of the engine, its environment and its inputs. Bits are `true` for 1. -/
structure State where
  /-- R7: the OPEN parameters; no step writes them (log 2). -/
  params     : Params
  /-- R32. -/
  enabled    : Bool
  /-- R32: 1 is SCL released (high). -/
  phase      : Bool
  /-- R33: the start latch. -/
  scla       : Bool
  /-- R33: the block's SCL output, 1 is released. -/
  sclO       : Bool
  /-- R34. -/
  sdaDrv     : SdaDrv
  /-- R35: 1 is Acknowledged. -/
  ackr       : Bool
  /-- R36. -/
  state      : TxState
  /-- R37. -/
  sa         : BitVec 7
  /-- R37. -/
  mode       : Mode
  /-- R37. -/
  ra         : Byte
  /-- R38. -/
  configured : Bool
  /-- R38: the installed tick divisor. -/
  div        : BitVec 32
  /-- R38, R103: the tick counter (log 6). -/
  tcnt       : BitVec 32
  /-- R39: the timeout bound in held ticks. -/
  tolim      : BitVec 16
  /-- R39: consecutive held ticks, saturating. -/
  stretchCnt : BitVec 16
  /-- R40: a command runs. -/
  run        : Bool
  /-- R40: the accepted command word. -/
  cmd        : Word
  /-- R40: the sticky overrun flag. -/
  ovr        : Bool
  /-- R41, R51. -/
  result     : Word
  /-- R42: the written entries of TXBUF. -/
  txbuf      : Memory
  /-- R42: the written entries of RXBUF. -/
  rxbuf      : Memory
  /-- R43. -/
  upc        : Upc
  /-- R43: the byte being transmitted. -/
  txb        : Byte
  /-- R43: the receive shift register. -/
  rxb        : Byte
  /-- R43: the byte index within WRITE and READ. -/
  i          : BitVec 9
  /-- R43: the attempt number of the current payload byte. -/
  att        : BitVec 4
  /-- R43: payload bytes completed. -/
  xfer       : BitVec 9
  /-- R43, R184: the NoAck phase code. -/
  nakph      : BitVec 2
  /-- R25: the environment pulls SDA low. -/
  eSdaLow    : Bool
  /-- R25: the environment pulls SCL low. -/
  eSclLow    : Bool
  /-- R24: the reset input (log 8). -/
  rstN       : Bool
  /-- R24: the host read data port, the value of the last read (log 7). -/
  hrdata     : Word
  /-- I1: which reset the unwritten buffer entries were drawn at (log 4). -/
  draw       : Nat
  /-- The moves to come (log 1); when none is listed the block moves. -/
  agenda     : List Move
deriving DecidableEq, Repr

/-- Why the machine stops. The spec's own errors are result codes (R230), not faults. -/
inductive Fault
  /-- `S.run = 1` with `S.upc` at "no routine". R171 and R183 always write the two together, so no run reaches such a
  state and no rule gives it a step. Raised by the Sequencer step (log 11). Safe: the model stops, and claims nothing. -/
  | noRoutine
deriving DecidableEq, Repr

/-- Why an instruction has no meaning. -/
inductive Refusal
  /-- An arm of `exec` without a meaning yet; no arm is left so. Safe. -/
  | notModelled (mnemonic : String)
deriving DecidableEq, Repr

/-- The machine right after reset: R54 and R250, with `rst_n` back at 1 (log 8), the parameters and the environment's
pulls as the uninterpreted constants of Config, and no input yet. -/
def State.reset : State where
  params     := Config.params
  enabled    := false
  phase      := true
  scla       := false
  sclO       := true
  sdaDrv     := .hiz
  ackr       := false
  state      := .idle
  sa         := 0#7
  mode       := .write
  ra         := 0#8
  configured := false
  div        := 0#32
  tcnt       := 0#32
  tolim      := 0xFFFF#16
  stretchCnt := 0#16
  run        := false
  cmd        := 0#32
  ovr        := false
  result     := 0#32
  txbuf      := []
  rxbuf      := []
  upc        := .noRoutine
  txb        := 0#8
  rxb        := 0#8
  i          := 0#9
  att        := 0#4
  xfer       := 0#9
  nakph      := 0#2
  eSdaLow    := Config.sdaLowAtReset
  eSclLow    := Config.sclLowAtReset
  rstN       := true
  hrdata     := 0#32
  draw       := 0
  agenda     := []

end Sys2Proof.Machine
end

