-- ==== Sys2Proof/Machine/Operands.lean ====
section
/-! DEFINITION. The operands of a running routine: the latched command word (R72), the byte of a frame (R144, R145), the
constants of R5 and R6, and the divisor arithmetic of INIT's operand (R101). -/

namespace Sys2Proof.Machine

/-- RETRY_LIMIT (R5, C3): attempts per payload byte in total. -/
def retryLimit : BitVec 4 := 10#4

/-- BUF_SIZE (R6): entries in each buffer. -/
def bufSize : Nat := 256

/-- TOLIM_RESET (R6). -/
def tolimReset : BitVec 16 := 0xFFFF#16

/-- `x div y` rounded up, for y > 0 (R9). -/
def ceilDiv (x y : Nat) : Nat := (x + y - 1) / y

/-- `divisor(f)` of R101, computed without overflow: clk cycles per half-period, or none for Unsupported. -/
def divisor (p : Params) (freq : BitVec 24) : Option Nat :=
  if freq = 0#24 then none
  else
    let d := ceilDiv p.fTclk (2 * freq.toNat)
    if d < p.divMin ∨ p.divMax < d then none else some d

/-- The payload byte count of the running WRITE or READ, from the latched command word (R72, R81). -/
def State.count (s : State) : Nat := (Word.count s.cmd).toNat

/-- The address frame on the wire: `(sa << 1) | mode`, the secondary address and then the mode bit (R66, R145). -/
def addrFrame (sa : BitVec 7) (mode : Mode) : Byte := sa.setWidth 8 <<< 1 ||| mode.bit.setWidth 8

/-- The byte a frame transmits (R144, R145, R177–R180). READ's address frame carries `S.sa` and mode 1. -/
def Frame.byte : Frame → State → Byte
  | .beginAddr, s           => addrFrame s.sa s.mode
  | .beginReg, s            => s.ra
  | .restartAddr .rstart, s => addrFrame s.sa s.mode
  | .restartAddr .read, s   => addrFrame s.sa .read
  | .payload, s             => s.txb

/-- The action `A` of `send_byte(b) with {A}` and `send_addr … with {A}`: the transaction state a frame enters with its
first bit (R170, R177, R178, R180). A payload byte enters none: WRITE is in PayloadPhase since acceptance (R179). -/
def Frame.entered : Frame → State → TxState
  | .beginAddr, _           => .addressPhase
  | .beginReg, _            => .writeRegisterPhase
  | .restartAddr .rstart, s => match s.mode with
                               | .read => .readRegisterPhase
                               | .write => .addressPhase
  | .restartAddr .read, _   => .readRegisterPhase
  | .payload, s             => s.state

/-- The bit after bit `k`, most significant first (R66, R144). -/
def nextBit (k : Fin 8) : Fin 8 := ⟨k.val - 1, by omega⟩

/-- `((r << 1) | b)[7:0]` (R146). -/
def shiftIn (r : Byte) (b : Bool) : Byte := r <<< 1 ||| (BitVec.ofBool b).setWidth 8

end Sys2Proof.Machine
end

