-- ==== Sys2Proof/Machine/Flags.lean ====
section
/-! DEFINITION. What is computed from the state and not stored: pads and bus levels (R121, R124), the predicates LOW and
HIGH (R9), blocking and the timeout condition (R26, R140), and the words STATUS, RESULT and XACT (R46, R51, R53). -/

namespace Sys2Proof.Machine

/-- R34's codes. -/
def SdaDrv.code : SdaDrv → BitVec 2
  | .hiz  => 0#2
  | .low  => 1#2
  | .high => 2#2

/-- R36's codes. -/
def TxState.code : TxState → BitVec 3
  | .idle               => 0#3
  | .startCondition     => 1#3
  | .addressPhase       => 2#3
  | .writeRegisterPhase => 3#3
  | .repeatedStart      => 4#3
  | .readRegisterPhase  => 5#3
  | .payloadPhase       => 6#3
  | .stopCondition      => 7#3

/-- R220's codes. -/
def ResultCode.code : ResultCode → BitVec 4
  | .ok                   => 0#4
  | .noAck                => 1#4
  | .maxRetriesExceeded   => 2#4
  | .busBusy              => 3#4
  | .bufferTooSmall       => 4#4
  | .clockStretchTimeout  => 5#4
  | .unsupportedFrequency => 6#4
  | .notConfigured        => 7#4
  | .noTransaction        => 8#4
  | .illegalCommand       => 9#4

/-- R124: the SDA pad's open-drain enable. -/
def State.sdaPull (s : State) : Bool := s.sdaDrv == .low

/-- R124: the SCL pad's open-drain enable. -/
def State.sclPull (s : State) : Bool := !s.sclO

/-- R121: the resolved SDA level. -/
def State.sdaIn (s : State) : Bool := !s.sdaPull && !s.eSdaLow

/-- R121: the resolved SCL level. -/
def State.sclIn (s : State) : Bool := !s.sclPull && !s.eSclLow

/-- R9: LOW. -/
def State.isLow (s : State) : Bool := !s.phase

/-- R9: HIGH. -/
def State.isHigh (s : State) : Bool := s.phase && s.sclIn

/-- The level an await of a routine waits for (R9). -/
inductive Level
  | low
  | high
deriving DecidableEq, Repr

/-- The await a position stands at; none where it stands at no await (log 9). -/
def Upc.awaits : Upc → Option Level
  | .noRoutine   => none
  | .dispatch    => none
  | .bitLow _ _  => some .low
  | .bitHigh _ _ => some .high
  | .ackLow _    => some .low
  | .ackHigh _   => some .high
  | .ackEnd _    => some .low
  | .rsLow _     => some .low
  | .rsHigh _    => some .high
  | .rxHigh _    => some .high
  | .rxLow _ _   => some .low
  | .mackLow     => some .low
  | .mackHigh    => some .high
  | .mackEnd     => some .low
  | .stopLow _   => some .low
  | .stopHigh _  => some .high

/-- The predicate of an await holds (R9, R140). -/
def State.holds (s : State) : Level → Bool
  | .low  => s.isLow
  | .high => s.isHigh

/-- R26: the command runs and its routine stands at an await whose predicate is false. -/
def State.blocked (s : State) : Bool :=
  s.run && match s.upc.awaits with
           | none   => false
           | some l => !s.holds l

/-- The timeout condition of R140. -/
def State.timedOut (s : State) : Bool := s.tolim ≤ s.stretchCnt

/-- R22: the two cases in which a Sequencer step is enabled. -/
def State.sequencerEnabled (s : State) : Bool := s.run && (!s.blocked || s.timedOut)

/-- One bit of a word. -/
def bitAt (b : Bool) (lo : Nat) : Word := fieldAt (BitVec.ofBool b) lo

/-- R46: STATUS. -/
def State.statusWord (s : State) : Word :=
  bitAt s.run 0 ||| bitAt (s.state != .idle) 1 ||| bitAt s.configured 2 ||| bitAt s.enabled 3 ||| bitAt s.phase 4
    ||| bitAt s.scla 5 ||| bitAt s.sdaIn 6 ||| bitAt s.sclIn 7 ||| fieldAt s.state.code 8 ||| bitAt s.ovr 11
    ||| bitAt s.ackr 12 ||| fieldAt s.sdaDrv.code 13

/-- R51: a RESULT word. -/
def resultWord (op : BitVec 4) (att : BitVec 4) (xfer : BitVec 9) (nakph : BitVec 2) (code : ResultCode) : Word :=
  fieldAt code.code 0 ||| fieldAt nakph 4 ||| fieldAt xfer 8 ||| fieldAt att 20 ||| fieldAt op 24

/-- The CODE field of a RESULT word (R51). -/
def resultCode (r : Word) : BitVec 4 := r.extractLsb' 0 4

/-- R53: XACT. -/
def State.xactWord (s : State) : Word := fieldAt s.sa 0 ||| fieldAt s.mode.bit 7 ||| fieldAt s.ra 8

end Sys2Proof.Machine
end

