-- ==== Sys2Proof/Machine/Ops.lean ====
section
/-! DEFINITION. The named operations over the buffers, the lines, the clock and the result, each from one rule of the spec.
`fail` (R222) is the one shared way a command ends in an error; the block has no traps and no return (R230, R231). -/

namespace Sys2Proof.Machine

/-! Buffers (R42, R60, R68). -/

/-- The byte written at index `a`, none where nothing has been written since reset (R42). -/
def Memory.read : Memory → Nat → Option Byte
  | [], _          => none
  | (k, v) :: m, a => if k = a then some v else Memory.read m a

/-- Writes byte `v` at index `a`, keeping the indices rising. -/
def Memory.write : Memory → Nat → Byte → Memory
  | [], a, v          => [(a, v)]
  | (k, w) :: m, a, v =>
    if a < k then (a, v) :: (k, w) :: m
    else if a = k then (a, v) :: m
    else (k, w) :: Memory.write m a v

/-- The canonical form: indices strictly rising and inside the buffer. A listed entry always holds a byte, and an unlisted
one holds none, so no entry equals what an unlisted index reads as. -/
abbrev Memory.wf (m : Memory) : Prop :=
  m.Pairwise (fun x y => x.1 < y.1) ∧ ∀ c ∈ m, c.1 < bufSize

/-- `MemRead(TXBUF, i)`, as the sequencer and the host read it: an entry nothing has written gives its draw (I1). -/
def State.readTx (s : State) (i : Nat) : Byte := (Memory.read s.txbuf i).getD (Config.freeTx s.draw i)

/-- An RXBUF entry as the host reads it: an entry nothing has written gives its draw (I1). -/
def State.readRx (s : State) (i : Nat) : Byte := (Memory.read s.rxbuf i).getD (Config.freeRx s.draw i)

/-- A host write of a TXBUF entry (R52, R65). -/
def writeTx (i : Nat) (v : Byte) (s : State) : State := { s with txbuf := Memory.write s.txbuf i v }

/-- `MemWrite(RXBUF, i, v)` (R68). -/
def writeRx (i : Nat) (v : Byte) (s : State) : State := { s with rxbuf := Memory.write s.rxbuf i v }

/-! The line driver (R120, R122). -/

/-- `drive(SDA, …)` and `release(SDA)` (R120). -/
def driveSda (d : SdaDrv) (s : State) : State := { s with sdaDrv := d }

/-- What `drive_bit(SDA, v)` drives (R120). -/
def bitDrive (v : Bool) : SdaDrv := if v then .high else .low

/-- The value `read(SDA)` returns: `sda_in` after the release (R122). -/
def sampleSda (s : State) : Bool := (driveSda .hiz s).sdaIn

/-! The clock tick source (R100–R106). -/

/-- `enable()` (R105). -/
def enableClock (s : State) : State :=
  { s with enabled := true, phase := true, tcnt := 0#32, stretchCnt := 0#16 }

/-- `disable()` (R106). -/
def disableClock (s : State) : State :=
  { s with enabled := false, scla := false, sclO := true, tcnt := 0#32 }

/-- `configure(f)` (R102): the new state; the answer is Ok exactly when `divisor` supports the frequency. -/
def configure (freq : BitVec 24) (s : State) : State :=
  match divisor s.params freq with
  | some d => { s with div := BitVec.ofNat 32 d, configured := true, tcnt := 0#32 }
  | none   => { s with div := 0#32, configured := false, tcnt := 0#32 }

/-- `min(n + 1, 0xFFFF)` (R104). -/
def saturatingSucc (n : BitVec 16) : BitVec 16 := if n = 0xFFFF#16 then n else n + 1#16

/-- The tick event (R104). -/
def tick (s : State) : State :=
  if s.phase && !s.sclIn then { s with stretchCnt := saturatingSucc s.stretchCnt }
  else { s with phase := !s.phase, sclO := if s.scla then !s.sclO else s.sclO, stretchCnt := 0#16 }

/-- The tick counter reaches `S.div`: it restarts at 0 and the tick event happens (R103, R104; log 6). -/
def tickExpiry (s : State) : State := tick { s with tcnt := 0#32 }

/-! Bus conditions up to their first await (R173–R175). -/

/-- `start_condition()` (R173). -/
def startCondition (s : State) : State :=
  enableClock { driveSda .low s with state := .startCondition, scla := true }

/-- `rs_condition()` up to its first await (R174). -/
def restartCondition (r : Restart) (s : State) : State := { s with state := .repeatedStart, upc := .rsLow r }

/-- `stop_condition()` up to its first await, to be followed by `complete(code)` (R175). -/
def stopCondition (code : ResultCode) (s : State) : State := { s with state := .stopCondition, upc := .stopLow code }

/-! Ending a command (R183, R222–R226). -/

/-- `complete(code)` (R183). -/
def complete (code : ResultCode) (s : State) : State :=
  { s with
    result := resultWord (Word.op s.cmd) s.att s.xfer s.nakph code
    run := false
    upc := .noRoutine }

/-- The forced release of R226. -/
def forcedRelease (s : State) : State :=
  complete .clockStretchTimeout { disableClock (driveSda .hiz s) with state := .idle }

/-- `fail c` (R222): a refusal completes at once (R224), a NACK failure begins the stop (R225), a timeout releases (R226).
Ok is no failure and is never passed; it would complete. -/
def fail (c : ResultCode) (s : State) : State :=
  match c with
  | .ok                   => complete .ok s
  | .illegalCommand       => complete .illegalCommand s
  | .notConfigured        => complete .notConfigured s
  | .noTransaction        => complete .noTransaction s
  | .busBusy              => complete .busBusy s
  | .bufferTooSmall       => complete .bufferTooSmall s
  | .unsupportedFrequency => complete .unsupportedFrequency s
  | .noAck                => stopCondition .noAck s
  | .maxRetriesExceeded   => stopCondition .maxRetriesExceeded s
  | .clockStretchTimeout  => forcedRelease s

/-- The counters dispatch clears before it decodes (R172). -/
def clearCounters (s : State) : State := { s with xfer := 0#9, att := 0#4, nakph := 0#2 }

/-- Every piece of block state at its reset value (R250, R54), while `rst_n = 0`. The environment's pulls stand (R250), the
unwritten buffer entries are drawn anew (I1), and what is not block state is kept. -/
def resetBlock (s : State) : State :=
  { s with
    enabled := false, phase := true, scla := false, sclO := true, sdaDrv := .hiz, ackr := false
    state := .idle, sa := 0#7, mode := .write, ra := 0#8
    configured := false, div := 0#32, tcnt := 0#32, tolim := tolimReset, stretchCnt := 0#16
    run := false, cmd := 0#32, ovr := false, result := 0#32
    txbuf := [], rxbuf := [], draw := s.draw + 1
    upc := .noRoutine, txb := 0#8, rxb := 0#8, i := 0#9, att := 0#4, xfer := 0#9, nakph := 0#2
    rstN := false }

end Sys2Proof.Machine
end

