-- ==== Sys2Proof/Machine/Sequencer.lean ====
section
/-! DEFINITION. The routines of the bit-level transceiver and of the transaction state machine (R140–R147, R173–R180),
as what each does after the await it stands at, and the atomic step that runs them (R10). -/

namespace Sys2Proof.Machine

/-- WRITE takes payload byte `j`: read once, first attempt, then its first bit (R179, R68). -/
def loadPayload (j : Nat) (s : State) : State :=
  { s with i := BitVec.ofNat 9 j, txb := s.readTx j, att := 1#4, upc := .bitLow .payload 7 }

/-- READ begins to receive payload byte `j` (R180, R146). -/
def beginReceive (j : Nat) (s : State) : State :=
  { s with i := BitVec.ofNat 9 j, rxb := 0#8, upc := .rxHigh 7 }

/-- READ after its acknowledged address frame (R180): PayloadPhase, then the first byte. -/
def beginPayloadRead (s : State) : State :=
  let s := { s with state := .payloadPhase }
  if 0 < s.count then beginReceive 0 s else complete .ok s

/-- What follows an acknowledged frame (R177–R180). -/
def frameAcked : Frame → State → State
  | .beginAddr, s           => { s with upc := .bitLow .beginReg 7 }
  | .beginReg, s            => complete .ok s
  | .restartAddr .rstart, s => complete .ok s
  | .restartAddr .read, s   => beginPayloadRead s
  | .payload, s             =>
    let s := { s with xfer := s.i + 1#9 }
    if s.i.toNat + 1 < s.count then loadPayload (s.i.toNat + 1) s else complete .ok s

/-- What follows a frame that was not acknowledged: NoAck with its phase code (R184), or another attempt (R182). -/
def frameNacked : Frame → State → State
  | .beginAddr, s     => fail .noAck { s with nakph := 1#2 }
  | .beginReg, s      => fail .noAck { s with nakph := 2#2 }
  | .restartAddr _, s => fail .noAck { s with nakph := 3#2 }
  | .payload, s       =>
    if s.att = retryLimit then fail .maxRetriesExceeded s
    else { s with att := s.att + 1#4, upc := .bitLow .payload 7 }

/-- The master's acknowledgement of payload byte `S.i`: ACK (0) all but the last, NACK (1) the last (R147, R180). -/
def State.nackBit (s : State) : Bool := !(s.i.toNat + 1 < s.count)

/-- What `receive_byte` and READ do with the bit `b` returned for position `k` (R146, R180): shift it in; after bit 0, write
the byte and count it. -/
def receivedBit (k : Fin 8) (b : Bool) (s : State) : State :=
  let s := { s with rxb := shiftIn s.rxb b }
  if k = 0 then { writeRx s.i.toNat s.rxb s with xfer := s.i + 1#9, upc := .mackLow }
  else { s with upc := .rxHigh (nextBit k) }

/-- The actions of the routine after the await it stands at, whose predicate holds, up to the next await or the end of the
command. A position at no await has none. -/
def passAwait (s : State) : State :=
  match s.upc with
  | .noRoutine   => s
  | .dispatch    => s
  | .bitLow f k  =>
    { driveSda (bitDrive ((f.byte s).getLsbD k.val)) s with
      state := if k = 7 then f.entered s else s.state
      upc := .bitHigh f k }
  | .bitHigh f k => { s with upc := if k = 0 then .ackLow f else .bitLow f (nextBit k) }
  | .ackLow f    => { driveSda .hiz s with upc := .ackHigh f }
  | .ackHigh f   => { driveSda .hiz s with ackr := !sampleSda s, upc := .ackEnd f }
  | .ackEnd f    => if s.ackr then frameAcked f s else frameNacked f s
  | .rsLow r     => { driveSda .hiz s with upc := .rsHigh r }
  | .rsHigh r    => { driveSda .low s with upc := .bitLow (.restartAddr r) 7 }
  | .rxHigh k    => { driveSda .hiz s with upc := .rxLow k (sampleSda s) }
  | .rxLow k b   => receivedBit k b s
  | .mackLow     => { driveSda (bitDrive s.nackBit) s with upc := .mackHigh }
  | .mackHigh    => { s with upc := .mackEnd }
  | .mackEnd     =>
    let s := driveSda .hiz s
    if s.i.toNat + 1 < s.count then beginReceive (s.i.toNat + 1) s else complete .ok s
  | .stopLow c   => { driveSda .low s with upc := .stopHigh c }
  | .stopHigh c  => complete c { disableClock (driveSda .hiz s) with state := .idle }

/-- The running routine stands at an await whose predicate holds. -/
def State.canPass (s : State) : Bool :=
  s.run && match s.upc.awaits with
           | none   => false
           | some l => s.holds l

/-- Runs through at most `n` awaits whose predicates hold (R10). -/
def advance : Nat → State → State
  | 0, s     => s
  | n + 1, s => if s.canPass then advance n (passAwait s) else s

/-- The rest of one atomic step (R10): through every await that holds, up to the next false one or the end of the command.
No step passes more than two awaits (Laws: `runRoutine_stops`), so four are enough (log 14). -/
def runRoutine (s : State) : State := advance 4 s

end Sys2Proof.Machine
end

