-- ==== Sys2Proof/Machine/Configure.lean ====
section
/-! DEFINITION. INIT: the configuration command (R176). -/

namespace Sys2Proof.Machine

/-- INIT (R176). -/
def execInit (freq : BitVec 24) (s : State) : Host.Outcome State Fault Refusal :=
  .next <|
    if s.state ≠ .idle then fail .busBusy s
    else
      let s := configure freq (disableClock (driveSda .hiz s))
      if s.configured then complete .ok s else fail .unsupportedFrequency s

end Sys2Proof.Machine
end

