-- ==== Sys2Proof/Machine/Payload.lean ====
section
/-! DEFINITION. The payload commands: WRITE and READ (R179, R180). Each meaning is the command's part of its dispatch step,
up to the first await that does not hold (R10, R172). -/

namespace Sys2Proof.Machine

/-- WRITE (R179). -/
def execWrite (count : BitVec 9) (s : State) : Host.Outcome State Fault Refusal :=
  .next <|
    if s.state = .idle then fail .noTransaction s
    else
      let s := { s with state := .payloadPhase }
      if count = 0#9 then complete .ok s else runRoutine (loadPayload 0 s)

/-- READ (R180). -/
def execRead (count cap : BitVec 9) (s : State) : Host.Outcome State Fault Refusal :=
  .next <|
    if s.state = .idle then fail .noTransaction s
    else if cap < count then fail .bufferTooSmall s
    else runRoutine (restartCondition .read { s with mode := .read })

end Sys2Proof.Machine
end

