-- ==== Sys2Proof/Machine/Transaction.lean ====
section
/-! DEFINITION. The commands that open, redirect and close a transaction: BEGIN, RSTART, END (R177, R178, R181). Each
meaning is the command's part of its dispatch step, up to the first await that does not hold (R10, R172). -/

namespace Sys2Proof.Machine

/-- BEGIN (R177). -/
def execBegin (sa : BitVec 7) (ra : Byte) (mode : Mode) (s : State) : Host.Outcome State Fault Refusal :=
  .next <|
    if !s.configured then fail .notConfigured s
    else if s.state ≠ .idle then fail .busBusy s
    else runRoutine { startCondition { s with sa := sa, ra := ra, mode := mode } with upc := .bitLow .beginAddr 7 }

/-- RSTART (R178). -/
def execRstart (sa : BitVec 7) (mode : Mode) (s : State) : Host.Outcome State Fault Refusal :=
  .next <|
    if s.state = .idle then fail .noTransaction s
    else runRoutine (restartCondition .rstart { s with sa := sa, mode := mode })

/-- END (R181). -/
def execEnd (s : State) : Host.Outcome State Fault Refusal :=
  .next <|
    if s.state = .idle then complete .ok s
    else runRoutine (stopCondition .ok s)

end Sys2Proof.Machine
end

