-- ==== Sys2Proof/Machine/Dispatch.lean ====
section
/-! DEFINITION. The dispatch of R172 over the six commands. -/

namespace Sys2Proof.Machine

def exec (i : Instr) (s : State) : Host.Outcome State Fault Refusal :=
  match i with
  | .init freq => Sys2Proof.Machine.execInit freq s
  | .beginTx sa ra mode => Sys2Proof.Machine.execBegin sa ra mode s
  | .rstart sa mode => Sys2Proof.Machine.execRstart sa mode s
  | .write count => Sys2Proof.Machine.execWrite count s
  | .read count cap => Sys2Proof.Machine.execRead count cap s
  | .endTx => Sys2Proof.Machine.execEnd s

end Sys2Proof.Machine
end

