-- ==== Sys2Proof/Machine/HostPort.lean ====
section
/-! DEFINITION. The host register interface: the map (R61), what a read returns (R45–R53, R63, R64) and what a write does
(R65, R171). -/

namespace Sys2Proof.Machine

/-- What the register space holds at a word (R61). -/
inductive HostReg
  | cmd
  | status
  | result
  | div
  | tolim
  | xact
  | txbuf (i : Nat)
  | rxbuf (i : Nat)
  | reserved
deriving DecidableEq, Repr

/-- The register at a byte offset: the word at `haddr[11:2] × 4`, bits 1:0 ignored (R61, R62). -/
def hostReg (off : BitVec 12) : HostReg :=
  let w := (off.extractLsb' 2 10).toNat
  if w = 0 then .cmd
  else if w = 1 then .status
  else if w = 2 then .result
  else if w = 3 then .div
  else if w = 4 then .tolim
  else if w = 5 then .xact
  else if w < 0x100 then .reserved
  else if w < 0x200 then .txbuf (w - 0x100)
  else if w < 0x300 then .rxbuf (w - 0x200)
  else .reserved

/-- The value of a register read (R45–R53), zero-extended (R8). -/
def regValue (s : State) : HostReg → Word
  | .cmd      => 0#32
  | .status   => s.statusWord
  | .result   => s.result
  | .div      => s.div
  | .tolim    => s.tolim.setWidth 32
  | .xact     => s.xactWord
  | .txbuf i  => (s.readTx i).setWidth 32
  | .rxbuf i  => (s.readRx i).setWidth 32
  | .reserved => 0#32

/-- `Host.read(off)`; while `rst_n = 0` a read returns 0 (R250, I18). -/
def hostValue (s : State) (off : BitVec 12) : Word := if s.rstN then regValue s (hostReg off) else 0#32

/-- Command acceptance (R171). -/
def acceptCommand (v : Word) (s : State) : State :=
  if s.run then { s with ovr := true } else { s with cmd := v, run := true, upc := .dispatch }

/-- The bound a TOLIM write stores (R49). -/
def legalTolim (v : Word) : BitVec 16 :=
  if v.extractLsb' 0 16 = 0#16 then 1#16 else v.extractLsb' 0 16

/-- The effect of a register write (R65); a write to a read-only or reserved word is ignored (R63). -/
def regWrite (v : Word) (s : State) : HostReg → State
  | .cmd      => acceptCommand v s
  | .status   => if v.getLsbD 11 then { s with ovr := false } else s
  | .result   => s
  | .div      => s
  | .tolim    => { s with tolim := legalTolim v }
  | .xact     => s
  | .txbuf i  => writeTx i (v.extractLsb' 0 8) s
  | .rxbuf _  => s
  | .reserved => s

/-- `Host.write(off, v)`; while `rst_n = 0` a write is ignored (R250, I18). -/
def hostStore (off : BitVec 12) (v : Word) (s : State) : State :=
  if s.rstN then regWrite v s (hostReg off) else s

/-- The STATUS offset (R61). -/
def statusOff : BitVec 12 := 0x004#12

/-- One read of POLL (R87): STATUS; while RUN = 1 the block moves once and the poll is taken again (log 15). -/
def pollOnce (s : State) : State :=
  let v := hostValue s statusOff
  if v.getLsbD 0 then { s with hrdata := v, agenda := .block :: .poll :: s.agenda } else { s with hrdata := v }

end Sys2Proof.Machine
end

