-- ==== Sys2Proof/Machine/Agents.lean ====
section
/-! DEFINITION. The steps of the agents (R20–R29): Sequencer, Tick, the clock cycle, and the outside world's moves. -/

namespace Sys2Proof.Machine

/-- The dispatch step (R172): clear the counters, decode the latched word, then fail IllegalCommand or run the command. -/
def dispatchStep (s : State) : Host.Outcome State Fault Refusal :=
  match decode s.cmd with
  | .error _ => .next (fail .illegalCommand (clearCounters s))
  | .ok i    => exec i (clearCounters s)

/-- The Sequencer step (R22): dispatch, the continuation of a routine whose await holds, or the timeout step. If the await
holds and the timeout condition does too, the await wins (R140, R228). -/
def sequencerStep (s : State) : Host.Outcome State Fault Refusal :=
  match s.upc.awaits with
  | some _ => .next (if s.canPass then runRoutine s else forcedRelease s)
  | none   => if s.upc = .dispatch then dispatchStep s else .fault .noRoutine

/-- The block's own step: the Sequencer if enabled, else the Tick if enabled (R22, R23, R29), else nothing (R237). While
`rst_n = 0` the block holds its reset values (R250). -/
def blockStep (s : State) : Host.Outcome State Fault Refusal :=
  if !s.rstN then .next s
  else if s.sequencerEnabled then sequencerStep s
  else if s.enabled then .next (tickExpiry s)
  else .next s

/-- One cycle of `clk` (R103): while the clock is enabled the tick counter counts it, and when the counter reaches `S.div` the
tick is due. A due tick is not taken while a Sequencer step is enabled (R29; log 6). -/
def clkStep (s : State) : State :=
  if !s.rstN || !s.enabled then s
  else if s.tcnt.toNat + 1 < s.div.toNat then { s with tcnt := s.tcnt + 1#32 }
  else if s.sequencerEnabled then s
  else tickExpiry s

/-- The input `rst_n` takes a level (R250). -/
def resetStep (level : Bool) (s : State) : State := if level then { s with rstN := true } else resetBlock s

/-- One move of the interleaving (R20, R70). -/
def doMove (s : State) : Move → Host.Outcome State Fault Refusal
  | .block           => blockStep s
  | .clk             => .next (clkStep s)
  | .hostRead off    => .next { s with hrdata := hostValue s off }
  | .hostWrite off v => .next (hostStore off v s)
  | .poll            => .next (pollOnce s)
  | .env sda scl     => .next { s with eSdaLow := sda, eSclLow := scl }
  | .rst level       => .next (resetStep level s)

/-- The next move of the interleaving and the state it is taken in: the head of the agenda, or the block's own step when
nothing is listed (log 1). -/
def nextMove (s : State) : Move × State :=
  match s.agenda with
  | []      => (.block, s)
  | m :: ms => (m, { s with agenda := ms })

/-- The state in which a command word has been accepted and the Sequencer is next (R171; log 13). -/
def acceptedWith (w : Word) (s : State) : State :=
  { s with cmd := w, run := true, upc := .dispatch, rstN := true, agenda := .block :: s.agenda }

end Sys2Proof.Machine
end

