-- ==== Sys2Proof/Machine/Step.lean ====
section
/-! DEFINITION. One step of the machine: the next move of the interleaving (R20, R70). -/

namespace Sys2Proof.Machine

/-- One step: the next move, taken in the state without it on the agenda. -/
def step (s : State) : Host.Outcome State Fault Refusal := doMove (nextMove s).2 (nextMove s).1

/-- `s` with a command word accepted (R171), so that the very next step dispatches it (R172). The block fetches nothing
(R31, R67): the host's accepted CMD write is what stands for a fetch (log 13). -/
def State.withFetchWord (s : State) (nbits w : Nat) : State :=
  acceptedWith (BitVec.ofNat 32 (w % 2 ^ nbits)) s

end Sys2Proof.Machine
end

