-- ==== Sys2Proof/Machine/HostProgram.lean ====
section
/-! DEFINITION. The assembler text of R86 and the pseudo-instructions of R88, as the words and host accesses they stand for. -/

namespace Sys2Proof.Machine

/-- A command as R86 writes it: operands are plain numbers. -/
inductive CommandText
  | init (freq : Nat)
  | beginTx (sa ra : Nat) (mode : Mode)
  | rstart (sa : Nat) (mode : Mode)
  | write (count : Nat)
  | read (count cap : Nat)
  | endTx
deriving DecidableEq, Repr

/-- The command an assembler reads; none where it refuses an operand outside its field (R86). -/
def CommandText.instr? : CommandText → Option Instr
  | .init freq          => if freq ≤ 0xFFFFFF then some (.init (.ofNat 24 freq)) else none
  | .beginTx sa ra mode => if sa ≤ 127 ∧ ra ≤ 255 then some (.beginTx (.ofNat 7 sa) (.ofNat 8 ra) mode) else none
  | .rstart sa mode     => if sa ≤ 127 then some (.rstart (.ofNat 7 sa) mode) else none
  | .write count        => if count ≤ 256 then some (.write (.ofNat 9 count)) else none
  | .read count cap     =>
    if 1 ≤ count ∧ count ≤ 256 ∧ cap ≤ 256 then some (.read (.ofNat 9 count) (.ofNat 9 cap)) else none
  | .endTx              => some .endTx

/-- The word of a command text, or none where the assembler refuses it (R86). -/
def assemble (t : CommandText) : Option Word := t.instr?.map encode

/-- `EXEC c`: the CMD write of the command's word, then POLL (R88). -/
def expandExec (t : CommandText) : Option (List Move) := (assemble t).map fun w => [.hostWrite 0x000#12 w, .poll]

/-- `WR 0x400+4k, bk` for each byte, from entry `k` on (R88). -/
def fillTx : Nat → List Byte → List Move
  | _, []      => []
  | k, b :: bs => .hostWrite (.ofNat 12 (0x400 + 4 * k)) (b.setWidth 32) :: fillTx (k + 1) bs

/-- The pseudo-instructions of R88. -/
inductive Pseudo
  | exec (t : CommandText)
  | sendByte (b : Byte)
  | regWrite (sa ra : Nat) (bytes : List Byte)
  | regRead (sa ra n : Nat)
  | getResult
deriving DecidableEq, Repr

/-- Several expansions one after the other; none if one of them is refused. -/
def joinMoves (parts : List (Option (List Move))) : Option (List Move) :=
  parts.foldr (fun p rest => p.bind fun ms => rest.map (ms ++ ·)) (some [])

/-- The host accesses a pseudo-instruction expands to (R88). -/
def Pseudo.expand : Pseudo → Option (List Move)
  | .exec t               => expandExec t
  | .sendByte b           => joinMoves [some (fillTx 0 [b]), expandExec (.write 1)]
  | .regWrite sa ra bytes =>
    joinMoves [some (fillTx 0 bytes), expandExec (.beginTx sa ra .write), expandExec (.write bytes.length),
      expandExec .endTx]
  | .regRead sa ra n      => joinMoves [expandExec (.beginTx sa ra .write), expandExec (.read n n), expandExec .endTx]
  | .getResult            => some [.hostRead 0x008#12]

end Sys2Proof.Machine
end

