-- ==== Sys2Proof/Safety.lean ====
section
/-! DEFINITION. What holds of the machine after every step from reset (R44, R170, R221, R254), the bus trace, and the end
of a run and its observation (R264). -/

namespace Sys2Proof.Machine

/-- Parameters within R7's bounds, a legal timeout bound (R49), and `S.div` as R38, R48 and R101 leave it. -/
abbrev ConfigOk (s : State) : Prop :=
  s.params.wf ∧ s.tolim ≠ 0#16 ∧ (s.configured = false → s.div = 0#32) ∧
    (s.configured = true → s.params.divMin ≤ s.div.toNat ∧ s.div.toNat ≤ s.params.divMax)

/-- R44 (a), (b), (c), and SDA released with the clock off, which gives (d). A running clock is a configured one (R177), and
its counter is below the divisor (R103). -/
abbrev ClockOk (s : State) : Prop :=
  (s.enabled = true ↔ s.state ≠ .idle) ∧
    (s.enabled = true → s.scla = true ∧ s.sclO = s.phase ∧ s.configured = true ∧ s.tcnt < s.div) ∧
    (s.enabled = false → s.scla = false ∧ s.sclO = true ∧ s.tcnt = 0#32 ∧ s.sdaDrv ≠ .low)

/-- While `rst_n = 0` no command runs and the clock is off (R250). -/
abbrev ResetOk (s : State) : Prop := s.rstN = false → s.run = false ∧ s.enabled = false

/-- The buffers keep their canonical form. -/
abbrev BuffersOk (s : State) : Prop := Memory.wf s.txbuf ∧ Memory.wf s.rxbuf

/-- R221: the codes a command's word can end with. An illegal word of any OP ends with IllegalCommand. -/
def codeAllowed (op : BitVec 4) : ResultCode → Bool
  | .ok                   => op ∈ [1#4, 2#4, 3#4, 4#4, 5#4, 6#4]
  | .noAck                => op ∈ [2#4, 3#4, 5#4]
  | .maxRetriesExceeded   => op = 4#4
  | .busBusy              => op ∈ [1#4, 2#4]
  | .bufferTooSmall       => op = 5#4
  | .clockStretchTimeout  => op ∈ [2#4, 3#4, 4#4, 5#4, 6#4]
  | .unsupportedFrequency => op = 1#4
  | .notConfigured        => op = 2#4
  | .noTransaction        => op ∈ [3#4, 4#4, 5#4]
  | .illegalCommand       => true

/-- The ten result codes of R220. -/
def ResultCode.all : List ResultCode :=
  [.ok, .noAck, .maxRetriesExceeded, .busBusy, .bufferTooSmall, .clockStretchTimeout, .unsupportedFrequency,
    .notConfigured, .noTransaction, .illegalCommand]

/-- RESULT holds its reset value, or a code its OP can end with (R41, R221, I15). -/
def resultOk (r : Word) : Bool :=
  r = 0#32 || ResultCode.all.any fun c => resultCode r = c.code && codeAllowed (r.extractLsb' 24 4) c

/-- R170: the states a transaction can rest in while no command runs. -/
def TxState.resting : TxState → Bool
  | .idle               => true
  | .startCondition     => false
  | .addressPhase       => true
  | .writeRegisterPhase => true
  | .repeatedStart      => false
  | .readRegisterPhase  => true
  | .payloadPhase       => true
  | .stopCondition      => false

/-- Between commands: a resting state, and SDA released (R170, R254). -/
def resting (s : State) : Bool := s.state.resting && s.sdaDrv != .low

/-- The latched word is a legal command (R84). -/
def State.legal (s : State) : Bool :=
  match decode s.cmd with
  | .ok _    => true
  | .error _ => false

/-- The OP of the command a frame belongs to (R177–R180). -/
def Frame.op : Frame → BitVec 4
  | .beginAddr            => 2#4
  | .beginReg             => 2#4
  | .restartAddr .rstart  => 3#4
  | .restartAddr .read    => 5#4
  | .payload              => 4#4

/-- The state a frame finds before its first bit is driven (R170). -/
def Frame.before : Frame → TxState
  | .beginAddr     => .startCondition
  | .beginReg      => .addressPhase
  | .restartAddr _ => .repeatedStart
  | .payload       => .payloadPhase

/-- A running frame belongs to the running command; a payload frame is within its count and its attempts (R179, R182). -/
def frameOk (f : Frame) (s : State) : Bool :=
  s.run && s.enabled && s.legal && Word.op s.cmd = f.op && s.nakph = 0#2 &&
    match f with
    | .payload             => s.state = .payloadPhase && s.i.toNat < s.count && s.xfer = s.i && 1#4 ≤ s.att && s.att ≤ retryLimit
    | .beginAddr           => s.xfer = 0#9 && s.att = 0#4
    | .beginReg            => s.xfer = 0#9 && s.att = 0#4
    | .restartAddr .rstart => s.xfer = 0#9 && s.att = 0#4
    | .restartAddr .read   => s.xfer = 0#9 && s.att = 0#4 && s.count ≤ (Word.cap s.cmd).toNat

/-- A running READ within its count, `done` payload bytes completed (R180). -/
def receiveOk (done : Nat) (s : State) : Bool :=
  s.run && s.enabled && s.legal && Word.op s.cmd = 5#4 && s.nakph = 0#2 && s.att = 0#4 && s.state = .payloadPhase &&
    s.i.toNat < s.count && s.count ≤ (Word.cap s.cmd).toNat && s.xfer.toNat = s.i.toNat + done

/-- Which failure, or END itself, began a stop (R181, R184, R225). -/
def stopOk (c : ResultCode) (s : State) : Bool :=
  s.run && s.enabled && s.legal && s.state = .stopCondition &&
    match c with
    | .ok                   => Word.op s.cmd = 6#4 && s.nakph = 0#2 && s.xfer = 0#9 && s.att = 0#4
    | .noAck                => s.xfer = 0#9 && s.att = 0#4 &&
                               ((Word.op s.cmd = 2#4 && (s.nakph = 1#2 || s.nakph = 2#2))
                                 || ((Word.op s.cmd = 3#4 || Word.op s.cmd = 5#4) && s.nakph = 3#2))
    | .maxRetriesExceeded   => Word.op s.cmd = 4#4 && s.att = retryLimit && s.nakph = 0#2
    | .busBusy              => false
    | .bufferTooSmall       => false
    | .clockStretchTimeout  => false
    | .unsupportedFrequency => false
    | .notConfigured        => false
    | .noTransaction        => false
    | .illegalCommand       => false

/-- Where a routine can stand, and what holds there. -/
def routineOk (s : State) : Bool :=
  match s.upc with
  | .noRoutine   => !s.run && resting s
  | .dispatch    => s.run && resting s
  | .bitLow f k  => frameOk f s && s.state = (if k = 7 then f.before else f.entered s)
  | .bitHigh f _ => frameOk f s && s.state = f.entered s
  | .ackLow f    => frameOk f s && s.state = f.entered s
  | .ackHigh f   => frameOk f s && s.state = f.entered s && s.sdaDrv = .hiz
  | .ackEnd f    => frameOk f s && s.state = f.entered s && s.sdaDrv = .hiz
  | .rsLow r     => frameOk (.restartAddr r) s && s.state = .repeatedStart
  | .rsHigh r    => frameOk (.restartAddr r) s && s.state = .repeatedStart && s.sdaDrv = .hiz
  | .rxHigh _    => receiveOk 0 s && s.sdaDrv = .hiz
  | .rxLow _ _   => receiveOk 0 s && s.sdaDrv = .hiz
  | .mackLow     => receiveOk 1 s
  | .mackHigh    => receiveOk 1 s
  | .mackEnd     => receiveOk 1 s
  | .stopLow c   => stopOk c s
  | .stopHigh c  => stopOk c s && s.sdaDrv = .low

/-- What every step keeps. -/
abbrev MachineInv (s : State) : Prop :=
  ConfigOk s ∧ ClockOk s ∧ ResetOk s ∧ BuffersOk s ∧ resultOk s.result = true ∧ routineOk s = true

/-- The state after `k` steps, where every one of them answered a next state. -/
def runsTo : Nat → State → State → Prop
  | 0, s, t     => s = t
  | k + 1, s, t => ∃ u, step s = .next u ∧ runsTo k u t

/-- A run of `k` steps that no fault or refusal ends. -/
def SafeRun (k : Nat) (s : State) : Prop := ∃ t, runsTo k s t

/-- The resolved bus levels `(sda_in, scl_in)` (R25, R121). -/
def State.bus (s : State) : Bool × Bool := (s.sdaIn, s.sclIn)

/-- The bus trace of a run: the levels at the start and after each step (R264). -/
def busTrace : Nat → State → List (Bool × Bool)
  | 0, s     => [s.bus]
  | k + 1, s =>
    match step s with
    | .next t    => s.bus :: busTrace k t
    | .fault _   => [s.bus]
    | .refused _ => [s.bus]

/-- A host access still to come. -/
def Move.isHost : Move → Bool
  | .block         => false
  | .clk           => false
  | .hostRead _    => true
  | .hostWrite _ _ => true
  | .poll          => true
  | .env _ _       => false
  | .rst _         => false

/-- R264: the program has issued its last access, and no command runs. -/
def State.runEnded (s : State) : Bool := !s.agenda.any Move.isHost && !s.run

/-- What R264 observes at the end of a run, beside the bus trace. -/
structure Observation where
  /-- STATUS without SDA_IN and SCL_IN, and without PHASE, which the tick keeps changing in an open transaction. -/
  status : Word
  result : Word
  div    : Word
  tolim  : Word
  xact   : Word
  tx     : List Byte
  rx     : List Byte
deriving DecidableEq, Repr

/-- The observation of R264. -/
def State.observe (s : State) : Observation where
  status := s.statusWord &&& 0xFFFFFF2F#32
  result := regValue s .result
  div    := regValue s .div
  tolim  := regValue s .tolim
  xact   := regValue s .xact
  tx     := (List.range bufSize).map s.readTx
  rx     := (List.range bufSize).map s.readRx

end Sys2Proof.Machine
end

