-- ==== Sys2Proof/Certificates/Slice0/Obligations.lean ====
section
/-! DEFINITION. The statements for the provers. `nextMove s = (m, s')` says that move `m` is next and that `s'` is the state it
is taken in: `s` without it on the agenda. -/

open Sys2Proof Sys2Proof.Machine

namespace Sys2Proof.Claims

/-- The Sequencer dispatches the latched word: it is the block's turn, in the state `s'` (R172). -/
def Dispatching (s s' : State) : Prop :=
  nextMove s = (.block, s') ∧ s.rstN = true ∧ s.run = true ∧ s.upc = .dispatch

/-- A Tick step is taken: the block's turn or a clock cycle, the clock enabled and no Sequencer step enabled (R23). -/
def TickMoves (s : State) (m : Move) : Prop :=
  (m = .block ∨ m = .clk) ∧ s.rstN = true ∧ s.enabled = true ∧ s.sequencerEnabled = false

/-- A Sequencer step is taken (R22). -/
def SequencerMoves (s : State) (m : Move) : Prop := m = .block ∧ s.rstN = true ∧ s.sequencerEnabled = true

/-- Command `i` has been accepted, no other input comes, SCL is not stretched, and no hold is pending. -/
def Accepted (i : Instr) (s : State) : Prop :=
  s.rstN = true ∧ s.run = true ∧ s.upc = .dispatch ∧ decode s.cmd = .ok i ∧ s.agenda = [] ∧
    s.eSclLow = false ∧ s.stretchCnt < s.tolim

/-- A transaction is active and its clock runs, SCL with the phase (R44 (a), (b)). -/
def Active (s : State) : Prop := s.state ≠ .idle ∧ s.enabled = true ∧ s.scla = true ∧ s.sclO = s.phase

/-- One tick more for a command entered at phase 1 (R263). -/
def late (s : State) : Nat := if s.phase then 1 else 0

/-- The command completes after exactly `ticks` ticks from its dispatch step, each tick one Tick step and one Sequencer step
(R11), and leaves `t`. -/
def CompletesAfter (ticks : Nat) (s t : State) : Prop :=
  runsTo (1 + 2 * ticks) s t ∧ t.run = false ∧ ∀ k u, k < 1 + 2 * ticks → runsTo k s u → u.run = true

/-- A word R83 calls illegal, its fields read as numbers. -/
def IllegalWord (w : Word) : Prop :=
  let v := w.toNat
  let op := v % 16
  let count := v / 16 % 512
  let cap := v / 2 ^ 13 % 512
  op = 0 ∨ 7 ≤ op ∨
    (op = 1 ∧ v / 2 ^ 28 ≠ 0) ∨ (op = 2 ∧ v / 2 ^ 20 ≠ 0) ∨ (op = 3 ∧ v / 2 ^ 12 ≠ 0) ∨
    (op = 4 ∧ (v / 2 ^ 13 ≠ 0 ∨ 256 < count)) ∨
    (op = 5 ∧ (v / 2 ^ 22 ≠ 0 ∨ count = 0 ∨ 256 < count ∨ 256 < cap)) ∨
    (op = 6 ∧ v / 16 ≠ 0)

/-- The state a refused command leaves: RESULT with the code, the command ended, the counters cleared, nothing else (R186). -/
def refused (code : Nat) (s : State) : State :=
  { s with
    xfer := 0#9, att := 0#4, nakph := 0#2
    result := BitVec.ofNat 32 (s.cmd.toNat % 16 * 2 ^ 24 + code)
    run := false, upc := .noRoutine }

/-- The environment's moves that put the bits of `b`, most significant first, on SDA at eight samples, each followed by the
rising tick, the sample, the falling tick and the step that takes the bit. -/
def loopback (b : Byte) : List Move :=
  (List.range 8).flatMap fun j => [.env (!b.getLsbD (7 - j)) false, .block, .block, .block, .block]

/-- The byte a frame puts on the wire, as a number (R145, R144): `2·sa + mode` for an address frame, mode 1 for READ's. -/
def frameNumber (s : State) : Frame → Nat
  | .beginAddr           => 2 * s.sa.toNat + (if s.mode = .read then 1 else 0)
  | .beginReg            => s.ra.toNat
  | .restartAddr .rstart => 2 * s.sa.toNat + (if s.mode = .read then 1 else 0)
  | .restartAddr .read   => 2 * s.sa.toNat + 1
  | .payload             => s.txb.toNat

/-- R170's table: which change of the transaction state a step makes, with its event. -/
def Transition (s t : State) : Prop :=
  (s.state = .idle ∧ t.state = .startCondition ∧
    s.upc = .dispatch ∧ ∃ sa ra m, decode s.cmd = .ok (.beginTx sa ra m)) ∨
  (s.state = .startCondition ∧ t.state = .addressPhase ∧ s.upc = .bitLow .beginAddr 7) ∨
  (s.state = .addressPhase ∧ t.state = .writeRegisterPhase ∧
    ((s.upc = .ackEnd .beginAddr ∧ s.ackr = true) ∨ s.upc = .bitLow .beginReg 7)) ∨
  (s.state ≠ .idle ∧ t.state = .repeatedStart ∧ s.upc = .dispatch ∧
    ((∃ sa m, decode s.cmd = .ok (.rstart sa m)) ∨ ∃ n cap, decode s.cmd = .ok (.read n cap))) ∨
  (s.state = .repeatedStart ∧ t.state = .readRegisterPhase ∧
    (s.upc = .bitLow (.restartAddr .read) 7 ∨ (s.upc = .bitLow (.restartAddr .rstart) 7 ∧ s.mode = .read))) ∨
  (s.state = .repeatedStart ∧ t.state = .addressPhase ∧ s.upc = .bitLow (.restartAddr .rstart) 7 ∧ s.mode = .write) ∨
  (s.state = .readRegisterPhase ∧ t.state = .payloadPhase ∧ s.upc = .ackEnd (.restartAddr .read) ∧ s.ackr = true) ∨
  (s.state ≠ .idle ∧ t.state = .payloadPhase ∧ s.upc = .dispatch ∧ ∃ n, decode s.cmd = .ok (.write n)) ∨
  (s.state ≠ .idle ∧ t.state = .stopCondition ∧
    ((s.upc = .dispatch ∧ decode s.cmd = .ok .endTx) ∨ ∃ f, s.upc = .ackEnd f ∧ s.ackr = false)) ∨
  (s.state = .stopCondition ∧ t.state = .idle ∧ ∃ c, s.upc = .stopHigh c) ∨
  (s.state ≠ .idle ∧ t.state = .idle ∧ s.blocked = true ∧ s.timedOut = true)

/-- R221's row of a command. -/
def codesOf : Instr → List ResultCode
  | .init _        => [.busBusy, .unsupportedFrequency, .ok]
  | .beginTx _ _ _ => [.notConfigured, .busBusy, .noAck, .clockStretchTimeout, .ok]
  | .rstart _ _    => [.noTransaction, .noAck, .clockStretchTimeout, .ok]
  | .write _       => [.noTransaction, .maxRetriesExceeded, .clockStretchTimeout, .ok]
  | .read _ _      => [.noTransaction, .bufferTooSmall, .noAck, .clockStretchTimeout, .ok]
  | .endTx         => [.clockStretchTimeout, .ok]

end Sys2Proof.Claims

open Sys2Proof.Claims

/-! Reset. -/

/-- R54: every piece of block state right after reset; an unwritten buffer entry holds no value. -/
def Obligations.ResetValues : Prop :=
  let s := State.reset
  s.enabled = false ∧ s.phase = true ∧ s.scla = false ∧ s.sclO = true ∧ s.sdaDrv = .hiz ∧ s.ackr = false ∧
    s.state = .idle ∧ s.sa = 0#7 ∧ s.mode = .write ∧ s.ra = 0#8 ∧ s.configured = false ∧ s.div = 0#32 ∧
    s.tcnt = 0#32 ∧ s.tolim = 0xFFFF#16 ∧ s.stretchCnt = 0#16 ∧ s.run = false ∧ s.cmd = 0#32 ∧ s.ovr = false ∧
    s.result = 0#32 ∧ s.upc = .noRoutine ∧ s.txb = 0#8 ∧ s.rxb = 0#8 ∧ s.i = 0#9 ∧ s.att = 0#4 ∧ s.xfer = 0#9 ∧
    s.nakph = 0#2 ∧ ∀ i, Memory.read s.txbuf i = none ∧ Memory.read s.rxbuf i = none

/-- R250: asserting `rst_n` at any moment gives the reset values and leaves the environment's pulls; while it is asserted
the block does nothing, a host read gives 0, a host write is ignored, and a POLL reads 0 and so ends at once. Releasing
`rst_n` changes nothing else: that the release is such a move of its own is the model's choice (log 8). (`draw`, `hrdata`
and `params` are the model's own fields, logs 2, 4 and 7, and POLL is log 15's.) -/
def Obligations.ResetInput : Prop :=
  (∀ s s', nextMove s = (.rst false, s') →
    step s = .next { State.reset with
      params := s.params, eSdaLow := s.eSdaLow, eSclLow := s.eSclLow, rstN := false
      hrdata := s.hrdata, draw := s.draw + 1, agenda := s'.agenda }) ∧
  (∀ s s', nextMove s = (.rst true, s') → step s = .next { s' with rstN := true }) ∧
  (∀ s s', s.rstN = false →
    (nextMove s = (.block, s') ∨ nextMove s = (.clk, s') ∨ (∃ off v, nextMove s = (.hostWrite off v, s')) →
      step s = .next s') ∧
    ((∃ off, nextMove s = (.hostRead off, s')) ∨ nextMove s = (.poll, s') → step s = .next { s' with hrdata := 0#32 }))

/-! Encoding. -/

/-- R89: the example words, legal and illegal. -/
def Obligations.DecodeExamples : Prop :=
  decode 0x00186A01#32 = .ok (.init 100000#24) ∧
  decode 0x0061A801#32 = .ok (.init 400000#24) ∧
  decode 0x00010502#32 = .ok (.beginTx 0x50#7 0x10#8 .write) ∧
  decode 0x00000D03#32 = .ok (.rstart 0x50#7 .read) ∧
  decode 0x00000014#32 = .ok (.write 1#9) ∧
  decode 0x00001004#32 = .ok (.write 256#9) ∧
  decode 0x00006035#32 = .ok (.read 3#9 3#9) ∧
  decode 0x00006055#32 = .ok (.read 5#9 3#9) ∧
  decode 0x00000006#32 = .ok .endTx ∧
  decode 0x00000000#32 = .error .reservedOp ∧
  decode 0x80000006#32 = .error .reservedBits ∧
  decode 0x00001014#32 = .error .countTooLarge ∧
  decode 0x00000005#32 = .error .countZero ∧
  decode 0x00202015#32 = .error .capTooLarge

/-- Decoding the word of a well-formed command gives the command back, with every operand (R80, R81, R84). -/
def Obligations.DecodeOfEncode : Prop := ∀ i : Instr, i.wf = true → decode (encode i) = .ok i

/-- A word that decodes is the word of its command, and the command is well formed: no two words mean the same (R84). -/
def Obligations.EncodeOfDecode : Prop := ∀ w i, decode w = .ok i → i.wf = true ∧ encode i = w

/-- R84 as arithmetic on the word: when each command is decoded, and with which fields. -/
def Obligations.DecodeByArithmetic : Prop :=
  ∀ w : Word,
    (∀ f, decode w = .ok (.init f) ↔
      w.toNat % 16 = 1 ∧ w.toNat / 2 ^ 28 = 0 ∧ f.toNat = w.toNat / 16 % 2 ^ 24) ∧
    (∀ sa ra m, decode w = .ok (.beginTx sa ra m) ↔
      w.toNat % 16 = 2 ∧ w.toNat / 2 ^ 20 = 0 ∧ sa.toNat = w.toNat / 16 % 128 ∧ ra.toNat = w.toNat / 2 ^ 12 % 256 ∧
        (m = .read ↔ w.toNat / 2 ^ 11 % 2 = 1)) ∧
    (∀ sa m, decode w = .ok (.rstart sa m) ↔
      w.toNat % 16 = 3 ∧ w.toNat / 2 ^ 12 = 0 ∧ sa.toNat = w.toNat / 16 % 128 ∧
        (m = .read ↔ w.toNat / 2 ^ 11 % 2 = 1)) ∧
    (∀ n, decode w = .ok (.write n) ↔
      w.toNat % 16 = 4 ∧ w.toNat / 2 ^ 13 = 0 ∧ n.toNat = w.toNat / 16 % 512 ∧ n.toNat ≤ 256) ∧
    (∀ n c, decode w = .ok (.read n c) ↔
      w.toNat % 16 = 5 ∧ w.toNat / 2 ^ 22 = 0 ∧ n.toNat = w.toNat / 16 % 512 ∧ c.toNat = w.toNat / 2 ^ 13 % 512 ∧
        1 ≤ n.toNat ∧ n.toNat ≤ 256 ∧ c.toNat ≤ 256) ∧
    (decode w = .ok .endTx ↔ w.toNat = 6)

/-- R82: the rows' masks and matches do not overlap, a decoded word fits its command's row and conditions, and a word that
fits a row and its conditions decodes to that row's command. -/
def Obligations.TableRowsSelect : Prop :=
  (∀ (w : Word) (i j : Instr),
    w &&& i.row.mask = i.row.word → w &&& j.row.mask = j.row.word → i.row = j.row) ∧
  (∀ w i, decode w = .ok i → w &&& i.row.mask = i.row.word ∧ i.wf = true) ∧
  (∀ (w : Word) (j : Instr), w &&& j.row.mask = j.row.word →
    (j.row.word = 4#32 → (w.toNat / 16 % 512) ≤ 256) →
    (j.row.word = 5#32 → 1 ≤ w.toNat / 16 % 512 ∧ w.toNat / 16 % 512 ≤ 256 ∧ w.toNat / 2 ^ 13 % 512 ≤ 256) →
    ∃ i, decode w = .ok i ∧ i.row = j.row)

/-- R83: an illegal word completes at once with IllegalCommand (9) and changes nothing but the result. -/
def Obligations.IllegalCommandCompletes : Prop :=
  ∀ s s', Dispatching s s' → IllegalWord s.cmd → step s = .next (refused 9 s')

/-- R86: the word of each command text, refused outside its fields, and never an illegal word. -/
def Obligations.AssemblerWords : Prop :=
  (∀ f, assemble (.init f) = if f ≤ 0xFFFFFF then some (BitVec.ofNat 32 (f * 16 + 1)) else none) ∧
  (∀ sa ra m, assemble (.beginTx sa ra m) =
    if sa ≤ 127 ∧ ra ≤ 255 then
      some (BitVec.ofNat 32 (ra * 2 ^ 12 + (if m = .read then 2 ^ 11 else 0) + sa * 16 + 2)) else none) ∧
  (∀ sa m, assemble (.rstart sa m) =
    if sa ≤ 127 then some (BitVec.ofNat 32 ((if m = .read then 2 ^ 11 else 0) + sa * 16 + 3)) else none) ∧
  (∀ n, assemble (.write n) = if n ≤ 256 then some (BitVec.ofNat 32 (n * 16 + 4)) else none) ∧
  (∀ n c, assemble (.read n c) =
    if 1 ≤ n ∧ n ≤ 256 ∧ c ≤ 256 then some (BitVec.ofNat 32 (c * 2 ^ 13 + n * 16 + 5)) else none) ∧
  assemble .endTx = some 6#32 ∧
  (∀ t w, assemble t = some w → ∃ i, decode w = .ok i)

/-- R88: the host accesses of the pseudo-instructions. -/
def Obligations.PseudoExpansions : Prop :=
  (∀ t w, assemble t = some w → Pseudo.expand (.exec t) = some [.hostWrite 0x000#12 w, .poll]) ∧
  (∀ b : Byte, Pseudo.expand (.sendByte b) =
    some [.hostWrite 0x400#12 (b.setWidth 32), .hostWrite 0x000#12 0x14#32, .poll]) ∧
  (∀ sa ra (bytes : List Byte), sa ≤ 127 → ra ≤ 255 → bytes.length ≤ 256 →
    Pseudo.expand (.regWrite sa ra bytes) = some (
      (List.range bytes.length).map (fun k =>
        Move.hostWrite (BitVec.ofNat 12 (0x400 + 4 * k)) ((bytes.getD k 0#8).setWidth 32)) ++
      [.hostWrite 0x000#12 (BitVec.ofNat 32 (ra * 2 ^ 12 + sa * 16 + 2)), .poll,
       .hostWrite 0x000#12 (BitVec.ofNat 32 (bytes.length * 16 + 4)), .poll,
       .hostWrite 0x000#12 6#32, .poll])) ∧
  (∀ sa ra n, sa ≤ 127 → ra ≤ 255 → 1 ≤ n → n ≤ 256 →
    Pseudo.expand (.regRead sa ra n) = some
      [.hostWrite 0x000#12 (BitVec.ofNat 32 (ra * 2 ^ 12 + sa * 16 + 2)), .poll,
       .hostWrite 0x000#12 (BitVec.ofNat 32 (n * 2 ^ 13 + n * 16 + 5)), .poll,
       .hostWrite 0x000#12 6#32, .poll]) ∧
  Pseudo.expand .getResult = some [.hostRead 0x008#12]

/-! Dispatch and the host port. -/

/-- R172: when the Sequencer dispatches a word that decodes, the step is the command's meaning, with XFER, ATT and NAKPH
cleared first. -/
def Obligations.StepRunsDecoded : Prop :=
  ∀ s s' i, Dispatching s s' → decode s.cmd = .ok i →
    step s = exec i { s' with xfer := 0#9, att := 0#4, nakph := 0#2 }

/-- The step after a word is placed by `withFetchWord` is that command's dispatch, from any state (R171, R172; log 13). -/
def Obligations.FetchWordRunsNext : Prop :=
  ∀ (s : State) (w : Nat) i, w < 2 ^ 32 → decode (BitVec.ofNat 32 w) = .ok i →
    step (s.withFetchWord 32 w) = exec i { s with
      cmd := BitVec.ofNat 32 w, run := true, upc := .dispatch, rstN := true
      xfer := 0#9, att := 0#4, nakph := 0#2 }

/-- R171: a CMD write is accepted when no command runs, and otherwise only sets the overrun flag. -/
def Obligations.CommandAcceptance : Prop :=
  ∀ s s' (v : Word), s.rstN = true → nextMove s = (.hostWrite 0x000#12 v, s') →
    (s.run = true → step s = .next { s' with ovr := true }) ∧
    (s.run = false → step s = .next { s' with cmd := v, run := true, upc := .dispatch })

/-- R61, R64: what a read of each word of the map returns, bits 1:0 of the offset ignored, and that a read changes nothing
but the data port. -/
def Obligations.HostReads : Prop :=
  ∀ s s' (off : BitVec 12), s.rstN = true → nextMove s = (.hostRead off, s') →
    ∃ v : Word, step s = .next { s' with hrdata := v } ∧
      let w := off.toNat / 4
      (w = 0 → v = 0#32) ∧ (w = 1 → v = s.statusWord) ∧ (w = 2 → v = s.result) ∧ (w = 3 → v = s.div) ∧
      (w = 4 → v = s.tolim.setWidth 32) ∧ (w = 5 → v = s.xactWord) ∧ (6 ≤ w ∧ w < 0x100 → v = 0#32) ∧
      (0x100 ≤ w ∧ w < 0x200 → v = (s.readTx (w - 0x100)).setWidth 32) ∧
      (0x200 ≤ w ∧ w < 0x300 → v = (s.readRx (w - 0x200)).setWidth 32) ∧ (0x300 ≤ w → v = 0#32)

/-- R65: what a write to each word of the map does, and that no other write has an effect. -/
def Obligations.HostWrites : Prop :=
  ∀ s s' (off : BitVec 12) (v : Word), s.rstN = true → nextMove s = (.hostWrite off v, s') →
    let w := off.toNat / 4
    (w = 0 → step s = .next (if s.run then { s' with ovr := true }
      else { s' with cmd := v, run := true, upc := .dispatch })) ∧
    (w = 1 → step s = .next { s' with ovr := s.ovr && !v.getLsbD 11 }) ∧
    (w = 4 → step s = .next { s' with tolim := if v.toNat % 2 ^ 16 = 0 then 1#16 else v.setWidth 16 }) ∧
    (0x100 ≤ w ∧ w < 0x200 →
      step s = .next { s' with txbuf := Memory.write s.txbuf (w - 0x100) (v.setWidth 8) }) ∧
    (w = 2 ∨ w = 3 ∨ (5 ≤ w ∧ w < 0x100) ∨ 0x200 ≤ w → step s = .next s')

/-- R52: a TXBUF entry reads back the low byte last written to it; every other entry of both buffers reads as before. -/
def Obligations.TxBufferReadsBack : Prop :=
  ∀ s s' t (i : Nat) (v : Word), s.rstN = true → i < 256 →
    nextMove s = (.hostWrite (BitVec.ofNat 12 (0x400 + 4 * i)) v, s') → step s = .next t →
    t.readTx i = v.setWidth 8 ∧ (∀ j, j ≠ i → t.readTx j = s.readTx j) ∧ (∀ j, t.readRx j = s.readRx j)

/-- R46: the fields of STATUS, and its reset value on an idle bus. -/
def Obligations.StatusFields : Prop :=
  (∀ s : State,
    s.statusWord.getLsbD 0 = s.run ∧ (s.statusWord.getLsbD 1 = true ↔ s.state ≠ .idle) ∧
    s.statusWord.getLsbD 2 = s.configured ∧ s.statusWord.getLsbD 3 = s.enabled ∧ s.statusWord.getLsbD 4 = s.phase ∧
    s.statusWord.getLsbD 5 = s.scla ∧ s.statusWord.getLsbD 6 = s.sdaIn ∧ s.statusWord.getLsbD 7 = s.sclIn ∧
    s.statusWord.extractLsb' 8 3 = s.state.code ∧ s.statusWord.getLsbD 11 = s.ovr ∧
    s.statusWord.getLsbD 12 = s.ackr ∧ s.statusWord.extractLsb' 13 2 = s.sdaDrv.code ∧
    s.statusWord.toNat < 2 ^ 15) ∧
  (∀ s, s = { State.reset with eSdaLow := false, eSclLow := false } → s.statusWord = 0x000000D0#32) ∧
  TxState.code .idle = 0#3 ∧ TxState.code .startCondition = 1#3 ∧ TxState.code .addressPhase = 2#3 ∧
  TxState.code .writeRegisterPhase = 3#3 ∧ TxState.code .repeatedStart = 4#3 ∧
  TxState.code .readRegisterPhase = 5#3 ∧ TxState.code .payloadPhase = 6#3 ∧ TxState.code .stopCondition = 7#3 ∧
  SdaDrv.code .hiz = 0#2 ∧ SdaDrv.code .low = 1#2 ∧ SdaDrv.code .high = 2#2

/-- R51, R53, R220: the fields of RESULT and of XACT and the numbers of the result codes. -/
def Obligations.ResultAndXactFields : Prop :=
  (∀ op att xfer nakph c,
    (resultWord op att xfer nakph c).toNat =
      (ResultCode.code c).toNat + nakph.toNat * 2 ^ 4 + xfer.toNat * 2 ^ 8 + att.toNat * 2 ^ 20 + op.toNat * 2 ^ 24) ∧
  (∀ s : State, s.xactWord.toNat = s.sa.toNat + (if s.mode = .read then 2 ^ 7 else 0) + s.ra.toNat * 2 ^ 8) ∧
  ResultCode.all.map (fun c => (ResultCode.code c).toNat) = [0, 1, 2, 3, 4, 5, 6, 7, 8, 9]

/-- R87: POLL reads STATUS; while RUN = 1 the block moves and the poll is taken again. That the block moves exactly once
between two reads is the model's choice (log 15). -/
def Obligations.PollWaitsForRun : Prop :=
  ∀ s s', s.rstN = true → nextMove s = (.poll, s') →
    (s.run = false → step s = .next { s' with hrdata := s.statusWord }) ∧
    (s.run = true → step s = .next { s' with hrdata := s.statusWord, agenda := .block :: .poll :: s'.agenda })

/-! The meanings of the commands. -/

/-- R101, R109: the divisor is the smallest number of cycles that does not exceed the requested frequency, and it must lie
in [DIV_MIN, DIV_MAX]; a zero frequency has none. -/
def Obligations.DivisorArithmetic : Prop :=
  (∀ (p : Params) (f : BitVec 24) (d : Nat), 0 < p.fTclk →
    (divisor p f = some d ↔
      f ≠ 0#24 ∧ p.divMin ≤ d ∧ d ≤ p.divMax ∧ p.fTclk ≤ 2 * f.toNat * d ∧ 2 * f.toNat * (d - 1) < p.fTclk)) ∧
  (∀ p : Params, p.fTclk = 16000000 → p.divMin = 2 → p.divMax = 65536 →
    divisor p 100000#24 = some 80 ∧ divisor p 400000#24 = some 20)

/-- R176 at Idle: a supported frequency installs its divisor and completes Ok; an unsupported one leaves the block
unconfigured and completes with UnsupportedFrequency (6). Both release SDA and stop the clock. `S.div` has 32 bits: for a
divisor of 2^32 or more, which log 3 rules out of the parameters (DEDUCED), the value installed is the model's. -/
def Obligations.InitConfigures : Prop :=
  ∀ (f : BitVec 24) (s : State), s.state = .idle →
    (∀ d, divisor s.params f = some d → exec (.init f) s = .next { s with
      sdaDrv := .hiz, enabled := false, scla := false, sclO := true, tcnt := 0#32
      div := BitVec.ofNat 32 d, configured := true
      result := resultWord (Word.op s.cmd) s.att s.xfer s.nakph .ok, run := false, upc := .noRoutine }) ∧
    (divisor s.params f = none → exec (.init f) s = .next { s with
      sdaDrv := .hiz, enabled := false, scla := false, sclO := true, tcnt := 0#32
      div := 0#32, configured := false
      result := resultWord (Word.op s.cmd) s.att s.xfer s.nakph .unsupportedFrequency, run := false
      upc := .noRoutine })

/-- R177, R173, R105: BEGIN at Idle stores its operands, pulls SDA low with SCL released, latches the start, enables the
clock at phase 1, and stands before the first address bit. -/
def Obligations.BeginOpensTransaction : Prop :=
  ∀ sa ra m (s : State), s.configured = true → s.state = .idle →
    exec (.beginTx sa ra m) s = .next { s with
      sa := sa, ra := ra, mode := m, state := .startCondition, sdaDrv := .low, scla := true
      enabled := true, phase := true, tcnt := 0#32, stretchCnt := 0#16, upc := .bitLow .beginAddr 7 }

/-- R178, R174: RSTART in a transaction stores its operands and begins the repeated start: at phase 0 SDA is released at
once, at phase 1 it waits. -/
def Obligations.RstartBeginsRepeatedStart : Prop :=
  ∀ sa m (s : State), s.run = true → s.state ≠ .idle →
    exec (.rstart sa m) s = .next { s with
      sa := sa, mode := m, state := .repeatedStart
      sdaDrv := if s.phase then s.sdaDrv else .hiz
      upc := if s.phase then .rsLow .rstart else .rsHigh .rstart }

/-- R179: WRITE in a transaction enters PayloadPhase. With bytes to send it takes TXBUF[0] for its first attempt and drives
its bit 7 at once at phase 0; with none it completes Ok with no bus activity. -/
def Obligations.WriteBeginsPayload : Prop :=
  ∀ (n : BitVec 9) (s : State), s.run = true → s.state ≠ .idle →
    (n ≠ 0#9 → exec (.write n) s = .next { s with
      state := .payloadPhase, i := 0#9, txb := s.readTx 0, att := 1#4
      sdaDrv := if s.phase then s.sdaDrv else if (s.readTx 0).getLsbD 7 then .high else .low
      upc := if s.phase then .bitLow .payload 7 else .bitHigh .payload 7 }) ∧
    (n = 0#9 → exec (.write n) s = .next { s with
      state := .payloadPhase, result := resultWord (Word.op s.cmd) s.att s.xfer s.nakph .ok
      run := false, upc := .noRoutine })

/-- R180, R174: READ in a transaction, within its capacity, sets the mode to READ and begins its own repeated start. -/
def Obligations.ReadBeginsRepeatedStart : Prop :=
  ∀ (n cap : BitVec 9) (s : State), s.run = true → s.state ≠ .idle → n ≤ cap →
    exec (.read n cap) s = .next { s with
      mode := .read, state := .repeatedStart
      sdaDrv := if s.phase then s.sdaDrv else .hiz
      upc := if s.phase then .rsLow .read else .rsHigh .read }

/-- R181, R175: END in a transaction begins the stop, SDA pulled low at once at phase 0; at Idle it completes Ok and
touches no line. -/
def Obligations.EndBeginsStop : Prop :=
  ∀ s : State, s.run = true →
    (s.state ≠ .idle → exec .endTx s = .next { s with
      state := .stopCondition
      sdaDrv := if s.phase then s.sdaDrv else .low
      upc := if s.phase then .stopLow .ok else .stopHigh .ok }) ∧
    (s.state = .idle → exec .endTx s = .next { s with
      result := resultWord (Word.op s.cmd) s.att s.xfer s.nakph .ok, run := false, upc := .noRoutine })

/-- R186, with R172's order of checks: which commands are refused and with which code, and that a refused command writes
only the result, the end of the command and the cleared counters. END at Idle ends the same way, with Ok (R181). -/
def Obligations.RefusalsDisturbNothing : Prop :=
  ∀ s s', Dispatching s s' →
    (∀ e, decode s.cmd = .error e → step s = .next (refused 9 s')) ∧
    (∀ i, decode s.cmd = .ok i →
      match i with
      | .init _        => s.state ≠ .idle → step s = .next (refused 3 s')
      | .beginTx _ _ _ => (s.configured = false → step s = .next (refused 7 s')) ∧
                          (s.configured = true → s.state ≠ .idle → step s = .next (refused 3 s'))
      | .rstart _ _    => s.state = .idle → step s = .next (refused 8 s')
      | .write _       => s.state = .idle → step s = .next (refused 8 s')
      | .read n cap    => (s.state = .idle → step s = .next (refused 8 s')) ∧
                          (s.state ≠ .idle → cap < n → step s = .next (refused 4 s'))
      | .endTx         => s.state = .idle → step s = .next (refused 0 s'))

/-! Whole commands, tick by tick (R263). The environment's pulls are held constant: with SDA held low every frame reads
Acknowledged and every received bit 0, with SDA released every frame reads NotAcknowledged (R121, R143). -/

/-- R177, R263: BEGIN, both frames acknowledged, completes Ok at tick 37. `ClockOk` is R44's part of the invariant: at Idle
SCL is released, so the first tick is not held. -/
def Obligations.BeginCompletesAtTick37 : Prop :=
  ∀ sa ra m (s : State), Accepted (.beginTx sa ra m) s → ClockOk s → s.configured = true → s.state = .idle → s.eSdaLow = true →
    ∃ t, CompletesAfter 37 s t ∧ t.result = 0x02000000#32 ∧ t.state = .writeRegisterPhase ∧ t.sa = sa ∧ t.ra = ra ∧
      t.mode = m ∧ t.ackr = true ∧ t.enabled = true ∧ t.phase = false ∧ t.sdaDrv = .hiz

/-- R177, R225, R263: BEGIN with no answer ends with NoAck, phase 1, at tick 20: stopped, Idle, both lines released.
`ClockOk` as in BeginCompletesAtTick37. -/
def Obligations.BeginAddressNackStopsAtTick20 : Prop :=
  ∀ sa ra m (s : State), Accepted (.beginTx sa ra m) s → ClockOk s → s.configured = true → s.state = .idle → s.eSdaLow = false →
    ∃ t, CompletesAfter 20 s t ∧ t.result = 0x02000011#32 ∧ t.state = .idle ∧ t.enabled = false ∧ t.ackr = false ∧
      t.sdaPull = false ∧ t.sclPull = false

/-- R178, R263: RSTART completes 20 ticks after a dispatch at phase 0 and 21 after one at phase 1; unanswered it ends with
NoAck, phase 3, one tick later, stopped. -/
def Obligations.RstartOutcomes : Prop :=
  ∀ sa m (s : State), Accepted (.rstart sa m) s → Active s →
    (s.eSdaLow = true → ∃ t, CompletesAfter (20 + late s) s t ∧ t.result = 0x03000000#32 ∧
      t.state = (if m = .read then .readRegisterPhase else .addressPhase) ∧ t.sa = sa ∧ t.mode = m ∧ t.ra = s.ra ∧
      t.ackr = true ∧ t.enabled = true ∧ t.phase = false ∧ t.sdaDrv = .hiz) ∧
    (s.eSdaLow = false → ∃ t, CompletesAfter (21 + late s) s t ∧ t.result = 0x03000031#32 ∧ t.state = .idle ∧
      t.enabled = false ∧ t.sdaPull = false ∧ t.sclPull = false)

/-- R179, R263: WRITE of n bytes, every byte acknowledged at its first attempt, takes 18 ticks a byte. -/
def Obligations.WriteTakes18TicksPerByte : Prop :=
  ∀ (n : BitVec 9) (s : State), Accepted (.write n) s → Active s → n ≠ 0#9 → s.eSdaLow = true →
    ∃ t, CompletesAfter (18 * n.toNat + late s) s t ∧
      t.result.toNat = 4 * 2 ^ 24 + 1 * 2 ^ 20 + n.toNat * 2 ^ 8 ∧ t.state = .payloadPhase ∧
      t.enabled = true ∧ t.phase = false ∧ t.sdaDrv = .hiz ∧ ∀ j, t.readTx j = s.readTx j

/-- R179, R182, R225: WRITE whose first byte is never acknowledged gives up after 10 attempts, with one stop, at tick 181. -/
def Obligations.WriteGivesUpAfterTenAttempts : Prop :=
  ∀ (n : BitVec 9) (s : State), Accepted (.write n) s → Active s → n ≠ 0#9 → s.eSdaLow = false →
    ∃ t, CompletesAfter (181 + late s) s t ∧ t.result = 0x04A00002#32 ∧ t.state = .idle ∧ t.enabled = false ∧
      t.sdaPull = false ∧ t.sclPull = false

/-- R180, R263: READ of n bytes, its address acknowledged, takes 20 + 18·n ticks, writes RXBUF[0..n-1] and no other entry. -/
def Obligations.ReadFillsRxbuf : Prop :=
  ∀ (n cap : BitVec 9) (s : State), Accepted (.read n cap) s → Active s → n ≤ cap → s.eSdaLow = true →
    ∃ t, CompletesAfter (20 + 18 * n.toNat + late s) s t ∧ t.result.toNat = 5 * 2 ^ 24 + n.toNat * 2 ^ 8 ∧
      t.state = .payloadPhase ∧ t.mode = .read ∧ t.ackr = true ∧ t.enabled = true ∧ t.phase = false ∧ t.sdaDrv = .hiz ∧
      (∀ j, j < n.toNat → t.readRx j = 0#8) ∧ (∀ j, n.toNat ≤ j → t.readRx j = s.readRx j)

/-- R181, R175, R263: END in a transaction stops at the next rising tick: SDA and SCL released, clock off, Idle. -/
def Obligations.EndStopsAtRisingTick : Prop :=
  ∀ s : State, Accepted .endTx s → Active s →
    ∃ t, CompletesAfter (1 + late s) s t ∧ t.result = 0x06000000#32 ∧ t.state = .idle ∧ t.enabled = false ∧
      t.scla = false ∧ t.sdaDrv = .hiz ∧ t.sclO = true

/-- R238: with no further input, whatever the environment holds, a running command completes within a bounded number of
steps. (The block moves whenever no input is listed: the model's form of R28's fairness, log 1.) -/
def Obligations.RunningCommandCompletes : Prop :=
  ∀ s : State, MachineInv s → s.rstN = true → s.run = true → s.agenda = [] →
    ∃ k t, k ≤ 200000 ∧ runsTo k s t ∧ t.run = false

/-! The agents. -/

/-- R104: the tick event: held while a secondary holds SCL low at phase 1, otherwise it inverts the phase, and SCL with it
while the start is latched. That it restarts the tick counter is R103's words and not R104's; that a block move does so
without counting clock cycles is the model's choice (log 6). -/
def Obligations.TickEvent : Prop :=
  ∀ s s', nextMove s = (.block, s') → TickMoves s .block →
    (s.phase = true ∧ s.sclIn = false → step s = .next { s' with
      stretchCnt := if s.stretchCnt = 0xFFFF#16 then 0xFFFF#16 else s.stretchCnt + 1#16, tcnt := 0#32 }) ∧
    (s.phase = false ∨ s.sclIn = true → step s = .next { s' with
      phase := !s.phase, sclO := if s.scla then !s.sclO else s.sclO, stretchCnt := 0#16, tcnt := 0#32 })

/-- R103: from a tick counter of 0, with no Sequencer step enabled, the cycles before the last only count, and the cycle
that reaches `S.div` is the tick event, the counter back at 0. -/
def Obligations.ClockCyclesMakeTick : Prop :=
  ∀ (s : State) (n : Nat), TickMoves s .clk → s.tcnt = 0#32 → n < s.div.toNat →
    (∀ rest, s.agenda = List.replicate n .clk ++ rest →
      runsTo n s { s with tcnt := BitVec.ofNat 32 n, agenda := rest }) ∧
    (∀ rest t, s.agenda = List.replicate s.div.toNat .clk ++ rest →
      (runsTo s.div.toNat s t ↔ t = tick { s with agenda := rest }))

/-- R22, R23, R29, R237: when the block moves, an enabled Sequencer step is the one taken; else an enabled Tick; and with
neither nothing changes. Two clauses hold the model's choices: the block move's tick restarts the tick counter without
counting clock cycles (log 6), and a block move with no step enabled is a stutter (log 1). -/
def Obligations.SequencerBeforeTick : Prop :=
  ∀ s s', nextMove s = (.block, s') → s.rstN = true →
    (s.sequencerEnabled = true → step s = sequencerStep s') ∧
    (s.sequencerEnabled = false → s.enabled = true → step s = .next (tick { s' with tcnt := 0#32 })) ∧
    (s.sequencerEnabled = false → s.enabled = false → step s = .next s')

/-- R121, R124, R27: the resolved bus levels, the pad pulls, and the Environment step, which sets both pulls to any values
and nothing else. -/
def Obligations.LinesAndEnvironment : Prop :=
  (∀ s : State, (s.sdaIn = true ↔ s.sdaDrv ≠ .low ∧ s.eSdaLow = false) ∧
    (s.sclIn = true ↔ s.sclO = true ∧ s.eSclLow = false) ∧
    (s.sdaPull = true ↔ s.sdaDrv = .low) ∧ (s.sclPull = true ↔ s.sclO = false)) ∧
  (∀ s s' a b, nextMove s = (.env a b, s') → step s = .next { s' with eSdaLow := a, eSclLow := b })

/-- R108: the phase and the SCL output are written only by the tick, by enable and disable, and by reset; SDA only by the
Sequencer and by reset. -/
def Obligations.LineWriters : Prop :=
  ∀ s s' t m, nextMove s = (m, s') → step s = .next t →
    (t.phase ≠ s.phase → m = .rst false ∨ TickMoves s m ∨ (SequencerMoves s m ∧ s.upc = .dispatch ∧ t.enabled = true)) ∧
    (t.sclO ≠ s.sclO → m = .rst false ∨ TickMoves s m ∨ (SequencerMoves s m ∧ t.enabled = false)) ∧
    (t.sdaDrv ≠ s.sdaDrv → m = .rst false ∨ SequencerMoves s m)

/-- R35: only the acknowledgement check writes `S.ackr`, beside reset, and it records a low SDA as Acknowledged (R143). -/
def Obligations.AckrWriters : Prop :=
  ∀ s s' t m, nextMove s = (m, s') → step s = .next t →
    (t.ackr ≠ s.ackr → m = .rst false ∨ (SequencerMoves s m ∧ s.isHigh = true ∧ ∃ f, s.upc = .ackHigh f)) ∧
    (∀ f, SequencerMoves s m → s.upc = .ackHigh f → s.isHigh = true → s.run = true →
      t.ackr = s.eSdaLow ∧ t.sdaDrv = .hiz ∧ t.upc = .ackEnd f)

/-- R37, R38, R40, R65: the transaction registers are written only by the dispatch step of a command that stores them, the
configuration only by INIT's, the latched command only by an accepted write of CMD, the timeout bound only by a write of
TOLIM, TXBUF only by a write of its window, the overrun flag only by a write of CMD while a command runs or of STATUS, and
all by reset. -/
def Obligations.RegisterWriters : Prop :=
  ∀ s s' t m, nextMove s = (m, s') → step s = .next t → m ≠ .rst false →
    (t.sa ≠ s.sa → SequencerMoves s m ∧ s.upc = .dispatch ∧ ((∃ sa ra md, decode s.cmd = .ok (.beginTx sa ra md)) ∨
      ∃ sa md, decode s.cmd = .ok (.rstart sa md))) ∧
    (t.ra ≠ s.ra → SequencerMoves s m ∧ s.upc = .dispatch ∧ ∃ sa ra md, decode s.cmd = .ok (.beginTx sa ra md)) ∧
    (t.mode ≠ s.mode → SequencerMoves s m ∧ s.upc = .dispatch ∧ ((∃ sa ra md, decode s.cmd = .ok (.beginTx sa ra md)) ∨
      (∃ sa md, decode s.cmd = .ok (.rstart sa md)) ∨ ∃ n c, decode s.cmd = .ok (.read n c))) ∧
    (t.div ≠ s.div ∨ t.configured ≠ s.configured →
      SequencerMoves s m ∧ s.upc = .dispatch ∧ ∃ f, decode s.cmd = .ok (.init f)) ∧
    (t.cmd ≠ s.cmd → s.rstN = true ∧ s.run = false ∧ t.run = true ∧
      ∃ off v, m = .hostWrite off v ∧ off.toNat / 4 = 0 ∧ t.cmd = v) ∧
    (t.tolim ≠ s.tolim → s.rstN = true ∧ ∃ off v, m = .hostWrite off v ∧ off.toNat / 4 = 4) ∧
    (t.txbuf ≠ s.txbuf → s.rstN = true ∧
      ∃ off v, m = .hostWrite off v ∧ 0x100 ≤ off.toNat / 4 ∧ off.toNat / 4 < 0x200) ∧
    (t.ovr ≠ s.ovr → s.rstN = true ∧ ∃ off v, m = .hostWrite off v ∧
      ((off.toNat / 4 = 0 ∧ s.run = true ∧ t.ovr = true) ∨
        (off.toNat / 4 = 1 ∧ v.getLsbD 11 = true ∧ t.ovr = false))) ∧
    t.params = s.params

/-- R183: RESULT changes only in the step in which RUN falls, and a command that ends records its own OP and counts. -/
def Obligations.ResultWrittenOnceAtCompletion : Prop :=
  ∀ s s' t m, nextMove s = (m, s') → step s = .next t → m ≠ .rst false →
    (t.result ≠ s.result → SequencerMoves s m ∧ s.run = true ∧ t.run = false) ∧
    (s.run = true → t.run = false → t.upc = .noRoutine ∧
      ∃ c, t.result = resultWord (Word.op s.cmd) t.att t.xfer t.nakph c)

/-! The routines. -/

/-- R144, R145, R141: a frame entered at phase 0 drives its byte most significant bit first, one bit in each low phase:
bit `7 - j` is on SDA after `1 + 4·j` steps and still there after the next two, the tick that releases SCL among them. -/
def Obligations.FrameDrivesMsbFirst : Prop :=
  ∀ (f : Frame) (s : State) (j : Fin 8),
    s.rstN = true → s.run = true → s.enabled = true → s.scla = true → s.sclO = false → s.phase = false →
    s.agenda = [] → s.eSclLow = false → s.stretchCnt < s.tolim → s.upc = .bitLow f 7 →
    ∃ t u, runsTo (1 + 4 * j.val) s t ∧ t.upc = .bitHigh f (7 - j) ∧ t.phase = false ∧
      t.sdaDrv = (if (frameNumber s f).testBit (7 - j.val) then .high else .low) ∧
      runsTo 2 t u ∧ u.phase = true ∧ u.sdaDrv = t.sdaDrv

/-- R146, R150: eight samples of an environment that puts a byte's bits on SDA, most significant first, are that byte, and
READ writes it to RXBUF at its index. -/
def Obligations.LoopbackReceivesByte : Prop :=
  ∀ (b : Byte) (s : State),
    s.rstN = true → s.run = true → s.enabled = true → s.scla = true → s.sclO = false → s.phase = false →
    s.sdaDrv ≠ .low → s.stretchCnt < s.tolim → s.upc = .rxHigh 7 → s.rxb = 0#8 → s.agenda = loopback b →
    ∃ t, runsTo 40 s t ∧ t.rxb = b ∧ t.readRx s.i.toNat = b ∧ t.xfer = s.i + 1#9 ∧ t.upc = .mackHigh ∧
      (∀ j, j ≠ s.i.toNat → t.readRx j = s.readRx j) ∧
      t.sdaDrv = (if s.i.toNat + 1 < s.count then .low else .high)

/-- R182, R179: at the end of a payload frame: a NACK before the tenth attempt sends the same byte again at once, the tenth
begins the stop; an ACK counts the byte and takes the next one from TXBUF, or completes. -/
def Obligations.PayloadRetryPolicy : Prop :=
  ∀ s s', nextMove s = (.block, s') → s.rstN = true → s.run = true → s.phase = false → s.upc = .ackEnd .payload →
    (s.ackr = false → s.att ≠ 10#4 → step s = .next { s' with
      att := s.att + 1#4, upc := .bitHigh .payload 7, sdaDrv := if s.txb.getLsbD 7 then .high else .low }) ∧
    (s.ackr = false → s.att = 10#4 → step s = .next { s' with
      state := .stopCondition, sdaDrv := .low, upc := .stopHigh .maxRetriesExceeded }) ∧
    (s.ackr = true → s.i.toNat + 1 < s.count → step s = .next { s' with
      xfer := s.i + 1#9, i := BitVec.ofNat 9 (s.i.toNat + 1), txb := s.readTx (s.i.toNat + 1), att := 1#4
      upc := .bitHigh .payload 7
      sdaDrv := if (s.readTx (s.i.toNat + 1)).getLsbD 7 then .high else .low }) ∧
    (s.ackr = true → s.count ≤ s.i.toNat + 1 → step s = .next { s' with
      xfer := s.i + 1#9, result := resultWord (Word.op s.cmd) s.att (s.i + 1#9) s.nakph .ok
      run := false, upc := .noRoutine })

/-- R177, R178, R180: what follows an acknowledged frame that is no payload byte, in the LOW step that returns it: BEGIN's
address frame is followed at once by bit 7 of the register byte, in WriteRegisterPhase; BEGIN's register byte and RSTART's
address frame complete Ok; READ's address frame is followed by its first payload byte, in PayloadPhase. -/
def Obligations.AcknowledgedFrameGoesOn : Prop :=
  ∀ s s', nextMove s = (.block, s') → s.rstN = true → s.run = true → s.phase = false → s.ackr = true →
    (s.upc = .ackEnd .beginAddr → step s = .next { s' with
      state := .writeRegisterPhase, sdaDrv := if s.ra.getLsbD 7 then .high else .low, upc := .bitHigh .beginReg 7 }) ∧
    (s.upc = .ackEnd .beginReg ∨ s.upc = .ackEnd (.restartAddr .rstart) → step s = .next { s' with
      result := resultWord (Word.op s.cmd) s.att s.xfer s.nakph .ok, run := false, upc := .noRoutine }) ∧
    (s.upc = .ackEnd (.restartAddr .read) → 0 < s.count → step s = .next { s' with
      state := .payloadPhase, i := 0#9, rxb := 0#8, upc := .rxHigh 7 })

/-- R225, R184: an address or register NACK pulls SDA low in the step that returns it, with its phase code, and the stop
follows at the next tick, unless SCL is stretched: Idle, clock off, SDA released, NoAck reported. -/
def Obligations.NackAbortsWithStop : Prop :=
  ∀ (f : Frame) (s : State) (ph : BitVec 2),
    (f = .beginAddr ∧ ph = 1#2) ∨ (f = .beginReg ∧ ph = 2#2) ∨ ((∃ r, f = .restartAddr r) ∧ ph = 3#2) →
    s.rstN = true → s.run = true → s.enabled = true → s.scla = true → s.sclO = false → s.phase = false →
    s.agenda = [] → s.eSclLow = false → s.stretchCnt < s.tolim → s.upc = .ackEnd f → s.ackr = false →
    (∃ u, runsTo 1 s u ∧ u.sdaDrv = .low ∧ u.state = .stopCondition ∧ u.nakph = ph ∧ u.run = true) ∧
    (∃ t, runsTo 3 s t ∧ t.sdaDrv = .hiz ∧ t.state = .idle ∧ t.enabled = false ∧ t.sclO = true ∧ t.run = false ∧
      t.result = resultWord (Word.op s.cmd) s.att s.xfer ph .noAck)

/-- R226, R140, R228: a blocked routine whose bound is reached takes the forced release; if its await holds, the await wins
and the routine goes on. -/
def Obligations.TimeoutForcesRelease : Prop :=
  ∀ s s' l, nextMove s = (.block, s') → s.rstN = true → s.run = true → s.upc.awaits = some l → s.tolim ≤ s.stretchCnt →
    (s.holds l = false → step s = .next { s' with
      sdaDrv := .hiz, enabled := false, scla := false, sclO := true, tcnt := 0#32, state := .idle
      result := resultWord (Word.op s.cmd) s.att s.xfer s.nakph .clockStretchTimeout
      run := false, upc := .noRoutine }) ∧
    (s.holds l = true → step s = .next (runRoutine s'))

/-- R68, R42: RXBUF is written only in the LOW step that takes a received byte's eighth bit, at the byte's index, which is
below the count and the capacity; every other entry reads as before. The byte being sent is read from TXBUF only when it
is first sent. -/
def Obligations.SequencerBufferAccesses : Prop :=
  ∀ s s' t m, MachineInv s → nextMove s = (m, s') → step s = .next t → m ≠ .rst false →
    (t.rxbuf ≠ s.rxbuf → s.isLow = true ∧ s.i.toNat < s.count ∧ s.count ≤ (Word.cap s.cmd).toNat ∧
      ∃ b, s.upc = .rxLow 0 b ∧ t.readRx s.i.toNat = t.rxb ∧ t.rxb = (s.rxb <<< 1 ||| (BitVec.ofBool b).setWidth 8)) ∧
    (∀ j, j ≠ s.i.toNat → t.readRx j = s.readRx j) ∧
    (t.txb ≠ s.txb → t.txb = s.readTx t.i.toNat ∧ t.att = 1#4 ∧
      ((s.upc = .dispatch ∧ t.i = 0#9) ∨ (s.upc = .ackEnd .payload ∧ s.ackr = true ∧ t.i.toNat = s.i.toNat + 1)))

/-! Invariants and whole-machine rules. -/

/-- The machine right after reset meets the invariant, whatever the parameters. -/
def Obligations.InvHoldsAtReset : Prop := ∀ a, MachineInv { State.reset with agenda := a }

/-- Every step keeps the invariant: configuration within its bounds, clock and lines consistent, buffers canonical, RESULT
with a code of its OP, and the routine where its command can stand. -/
def Obligations.StepKeepsInv : Prop := ∀ s t, MachineInv s → step s = .next t → MachineInv t

/-- From a state that meets the invariant no step stops: no fault and no refusal. -/
def Obligations.InvNeverStops : Prop := ∀ s, MachineInv s → ∃ t, step s = .next t

/-- R44 (a)–(e), after every step from reset, whatever the host, the environment and the interleaving do. -/
def Obligations.ClockAndLineInvariants : Prop :=
  ∀ (a : List Move) (k : Nat) (t : State), runsTo k { State.reset with agenda := a } t →
    (t.state = .idle ↔ t.enabled = false) ∧
    (t.enabled = true → t.scla = true ∧ t.sclO = t.phase) ∧
    (t.enabled = false → t.sclO = true ∧ t.scla = false) ∧
    (t.state = .idle → t.run = false → t.sdaDrv = .hiz ∨ t.sdaDrv = .high) ∧
    (∀ l, t.upc.awaits = some l → t.enabled = true)

/-- R170: the transaction state changes only along the table, with its event, and rests only in the five resting states
while no command runs. -/
def Obligations.TransactionStateChain : Prop :=
  ∀ s s' t m, MachineInv s → nextMove s = (m, s') → step s = .next t → m ≠ .rst false →
    (t.state ≠ s.state → SequencerMoves s m ∧ Transition s t) ∧
    (t.run = false → t.state = .idle ∨ t.state = .addressPhase ∨ t.state = .writeRegisterPhase ∨
      t.state = .readRegisterPhase ∨ t.state = .payloadPhase)

/-- R221: the code a command ends with is in its row, NoAck with the row's phase code; an illegal word ends with
IllegalCommand. -/
def Obligations.ResultCodesInTheirRow : Prop :=
  ∀ s s' t m, MachineInv s → nextMove s = (m, s') → step s = .next t → m ≠ .rst false → s.run = true → t.run = false →
    (∀ i, decode s.cmd = .ok i →
      (∃ c ∈ codesOf i, t.result.toNat % 16 = c.code.toNat) ∧
      (t.result.toNat % 16 = 1 →
        let ph := t.result.toNat / 16 % 4
        ((∃ sa ra md, i = .beginTx sa ra md) ∧ (ph = 1 ∨ ph = 2)) ∨
          (((∃ sa md, i = .rstart sa md) ∨ ∃ n c, i = .read n c) ∧ ph = 3))) ∧
    (∀ e, decode s.cmd = .error e → t.result.toNat % 16 = 9)

/-- R148: with no pull from the environment and the clock enabled, SDA changes only in Sequencer steps at phase 0, except
at the repeated start's pull, the stop's release and the forced release. -/
def Obligations.SdaStableWhileSclHigh : Prop :=
  ∀ s s' t m, MachineInv s → nextMove s = (m, s') → step s = .next t → m ≠ .rst false →
    s.eSdaLow = false → t.eSdaLow = false → s.enabled = true → t.sdaIn ≠ s.sdaIn →
    SequencerMoves s m ∧ (s.phase = false ∨ (∃ r, s.upc = .rsHigh r) ∨ (∃ c, s.upc = .stopHigh c) ∨
      (s.blocked = true ∧ s.timedOut = true))

/-- R254, R264: with no command running and no input, steps in an open transaction change only the phase, the SCL output,
the held-tick count and the tick counter, SDA stays as the command left it, and the observation of the end of a run does
not change. -/
def Obligations.OpenTransactionOnlyTicks : Prop :=
  ∀ (k : Nat) (s t : State), s.rstN = true → s.run = false → s.agenda = [] → runsTo k s t →
    (∃ ph so sc tc, t = { s with phase := ph, sclO := so, stretchCnt := sc, tcnt := tc }) ∧ t.observe = s.observe
end

