-- ==== Sys2Proof/Laws/State.lean ====
section
/-! SUPPORT. One lemma per field for each named update of the state: what the update makes of the field. All are true by
definition and tagged simp, so that no proof unfolds a record update. -/

namespace Sys2Proof.Machine

variable (s : State)

/-! `driveSda` (R120). -/

@[simp] theorem driveSda_params (d : SdaDrv) : (driveSda d s).params = s.params := rfl
@[simp] theorem driveSda_enabled (d : SdaDrv) : (driveSda d s).enabled = s.enabled := rfl
@[simp] theorem driveSda_phase (d : SdaDrv) : (driveSda d s).phase = s.phase := rfl
@[simp] theorem driveSda_scla (d : SdaDrv) : (driveSda d s).scla = s.scla := rfl
@[simp] theorem driveSda_sclO (d : SdaDrv) : (driveSda d s).sclO = s.sclO := rfl
@[simp] theorem driveSda_sdaDrv (d : SdaDrv) : (driveSda d s).sdaDrv = d := rfl
@[simp] theorem driveSda_ackr (d : SdaDrv) : (driveSda d s).ackr = s.ackr := rfl
@[simp] theorem driveSda_state (d : SdaDrv) : (driveSda d s).state = s.state := rfl
@[simp] theorem driveSda_sa (d : SdaDrv) : (driveSda d s).sa = s.sa := rfl
@[simp] theorem driveSda_mode (d : SdaDrv) : (driveSda d s).mode = s.mode := rfl
@[simp] theorem driveSda_ra (d : SdaDrv) : (driveSda d s).ra = s.ra := rfl
@[simp] theorem driveSda_configured (d : SdaDrv) : (driveSda d s).configured = s.configured := rfl
@[simp] theorem driveSda_div (d : SdaDrv) : (driveSda d s).div = s.div := rfl
@[simp] theorem driveSda_tcnt (d : SdaDrv) : (driveSda d s).tcnt = s.tcnt := rfl
@[simp] theorem driveSda_tolim (d : SdaDrv) : (driveSda d s).tolim = s.tolim := rfl
@[simp] theorem driveSda_stretchCnt (d : SdaDrv) : (driveSda d s).stretchCnt = s.stretchCnt := rfl
@[simp] theorem driveSda_run (d : SdaDrv) : (driveSda d s).run = s.run := rfl
@[simp] theorem driveSda_cmd (d : SdaDrv) : (driveSda d s).cmd = s.cmd := rfl
@[simp] theorem driveSda_ovr (d : SdaDrv) : (driveSda d s).ovr = s.ovr := rfl
@[simp] theorem driveSda_result (d : SdaDrv) : (driveSda d s).result = s.result := rfl
@[simp] theorem driveSda_txbuf (d : SdaDrv) : (driveSda d s).txbuf = s.txbuf := rfl
@[simp] theorem driveSda_rxbuf (d : SdaDrv) : (driveSda d s).rxbuf = s.rxbuf := rfl
@[simp] theorem driveSda_upc (d : SdaDrv) : (driveSda d s).upc = s.upc := rfl
@[simp] theorem driveSda_txb (d : SdaDrv) : (driveSda d s).txb = s.txb := rfl
@[simp] theorem driveSda_rxb (d : SdaDrv) : (driveSda d s).rxb = s.rxb := rfl
@[simp] theorem driveSda_i (d : SdaDrv) : (driveSda d s).i = s.i := rfl
@[simp] theorem driveSda_att (d : SdaDrv) : (driveSda d s).att = s.att := rfl
@[simp] theorem driveSda_xfer (d : SdaDrv) : (driveSda d s).xfer = s.xfer := rfl
@[simp] theorem driveSda_nakph (d : SdaDrv) : (driveSda d s).nakph = s.nakph := rfl
@[simp] theorem driveSda_eSdaLow (d : SdaDrv) : (driveSda d s).eSdaLow = s.eSdaLow := rfl
@[simp] theorem driveSda_eSclLow (d : SdaDrv) : (driveSda d s).eSclLow = s.eSclLow := rfl
@[simp] theorem driveSda_rstN (d : SdaDrv) : (driveSda d s).rstN = s.rstN := rfl
@[simp] theorem driveSda_hrdata (d : SdaDrv) : (driveSda d s).hrdata = s.hrdata := rfl
@[simp] theorem driveSda_draw (d : SdaDrv) : (driveSda d s).draw = s.draw := rfl
@[simp] theorem driveSda_agenda (d : SdaDrv) : (driveSda d s).agenda = s.agenda := rfl

/-! `enableClock` (R105). -/

@[simp] theorem enableClock_params : (enableClock s).params = s.params := rfl
@[simp] theorem enableClock_enabled : (enableClock s).enabled = true := rfl
@[simp] theorem enableClock_phase : (enableClock s).phase = true := rfl
@[simp] theorem enableClock_scla : (enableClock s).scla = s.scla := rfl
@[simp] theorem enableClock_sclO : (enableClock s).sclO = s.sclO := rfl
@[simp] theorem enableClock_sdaDrv : (enableClock s).sdaDrv = s.sdaDrv := rfl
@[simp] theorem enableClock_ackr : (enableClock s).ackr = s.ackr := rfl
@[simp] theorem enableClock_state : (enableClock s).state = s.state := rfl
@[simp] theorem enableClock_sa : (enableClock s).sa = s.sa := rfl
@[simp] theorem enableClock_mode : (enableClock s).mode = s.mode := rfl
@[simp] theorem enableClock_ra : (enableClock s).ra = s.ra := rfl
@[simp] theorem enableClock_configured : (enableClock s).configured = s.configured := rfl
@[simp] theorem enableClock_div : (enableClock s).div = s.div := rfl
@[simp] theorem enableClock_tcnt : (enableClock s).tcnt = 0#32 := rfl
@[simp] theorem enableClock_tolim : (enableClock s).tolim = s.tolim := rfl
@[simp] theorem enableClock_stretchCnt : (enableClock s).stretchCnt = 0#16 := rfl
@[simp] theorem enableClock_run : (enableClock s).run = s.run := rfl
@[simp] theorem enableClock_cmd : (enableClock s).cmd = s.cmd := rfl
@[simp] theorem enableClock_ovr : (enableClock s).ovr = s.ovr := rfl
@[simp] theorem enableClock_result : (enableClock s).result = s.result := rfl
@[simp] theorem enableClock_txbuf : (enableClock s).txbuf = s.txbuf := rfl
@[simp] theorem enableClock_rxbuf : (enableClock s).rxbuf = s.rxbuf := rfl
@[simp] theorem enableClock_upc : (enableClock s).upc = s.upc := rfl
@[simp] theorem enableClock_txb : (enableClock s).txb = s.txb := rfl
@[simp] theorem enableClock_rxb : (enableClock s).rxb = s.rxb := rfl
@[simp] theorem enableClock_i : (enableClock s).i = s.i := rfl
@[simp] theorem enableClock_att : (enableClock s).att = s.att := rfl
@[simp] theorem enableClock_xfer : (enableClock s).xfer = s.xfer := rfl
@[simp] theorem enableClock_nakph : (enableClock s).nakph = s.nakph := rfl
@[simp] theorem enableClock_eSdaLow : (enableClock s).eSdaLow = s.eSdaLow := rfl
@[simp] theorem enableClock_eSclLow : (enableClock s).eSclLow = s.eSclLow := rfl
@[simp] theorem enableClock_rstN : (enableClock s).rstN = s.rstN := rfl
@[simp] theorem enableClock_hrdata : (enableClock s).hrdata = s.hrdata := rfl
@[simp] theorem enableClock_draw : (enableClock s).draw = s.draw := rfl
@[simp] theorem enableClock_agenda : (enableClock s).agenda = s.agenda := rfl

/-! `disableClock` (R106). -/

@[simp] theorem disableClock_params : (disableClock s).params = s.params := rfl
@[simp] theorem disableClock_enabled : (disableClock s).enabled = false := rfl
@[simp] theorem disableClock_phase : (disableClock s).phase = s.phase := rfl
@[simp] theorem disableClock_scla : (disableClock s).scla = false := rfl
@[simp] theorem disableClock_sclO : (disableClock s).sclO = true := rfl
@[simp] theorem disableClock_sdaDrv : (disableClock s).sdaDrv = s.sdaDrv := rfl
@[simp] theorem disableClock_ackr : (disableClock s).ackr = s.ackr := rfl
@[simp] theorem disableClock_state : (disableClock s).state = s.state := rfl
@[simp] theorem disableClock_sa : (disableClock s).sa = s.sa := rfl
@[simp] theorem disableClock_mode : (disableClock s).mode = s.mode := rfl
@[simp] theorem disableClock_ra : (disableClock s).ra = s.ra := rfl
@[simp] theorem disableClock_configured : (disableClock s).configured = s.configured := rfl
@[simp] theorem disableClock_div : (disableClock s).div = s.div := rfl
@[simp] theorem disableClock_tcnt : (disableClock s).tcnt = 0#32 := rfl
@[simp] theorem disableClock_tolim : (disableClock s).tolim = s.tolim := rfl
@[simp] theorem disableClock_stretchCnt : (disableClock s).stretchCnt = s.stretchCnt := rfl
@[simp] theorem disableClock_run : (disableClock s).run = s.run := rfl
@[simp] theorem disableClock_cmd : (disableClock s).cmd = s.cmd := rfl
@[simp] theorem disableClock_ovr : (disableClock s).ovr = s.ovr := rfl
@[simp] theorem disableClock_result : (disableClock s).result = s.result := rfl
@[simp] theorem disableClock_txbuf : (disableClock s).txbuf = s.txbuf := rfl
@[simp] theorem disableClock_rxbuf : (disableClock s).rxbuf = s.rxbuf := rfl
@[simp] theorem disableClock_upc : (disableClock s).upc = s.upc := rfl
@[simp] theorem disableClock_txb : (disableClock s).txb = s.txb := rfl
@[simp] theorem disableClock_rxb : (disableClock s).rxb = s.rxb := rfl
@[simp] theorem disableClock_i : (disableClock s).i = s.i := rfl
@[simp] theorem disableClock_att : (disableClock s).att = s.att := rfl
@[simp] theorem disableClock_xfer : (disableClock s).xfer = s.xfer := rfl
@[simp] theorem disableClock_nakph : (disableClock s).nakph = s.nakph := rfl
@[simp] theorem disableClock_eSdaLow : (disableClock s).eSdaLow = s.eSdaLow := rfl
@[simp] theorem disableClock_eSclLow : (disableClock s).eSclLow = s.eSclLow := rfl
@[simp] theorem disableClock_rstN : (disableClock s).rstN = s.rstN := rfl
@[simp] theorem disableClock_hrdata : (disableClock s).hrdata = s.hrdata := rfl
@[simp] theorem disableClock_draw : (disableClock s).draw = s.draw := rfl
@[simp] theorem disableClock_agenda : (disableClock s).agenda = s.agenda := rfl

/-! `startCondition` (R173). -/

@[simp] theorem startCondition_params : (startCondition s).params = s.params := rfl
@[simp] theorem startCondition_enabled : (startCondition s).enabled = true := rfl
@[simp] theorem startCondition_phase : (startCondition s).phase = true := rfl
@[simp] theorem startCondition_scla : (startCondition s).scla = true := rfl
@[simp] theorem startCondition_sclO : (startCondition s).sclO = s.sclO := rfl
@[simp] theorem startCondition_sdaDrv : (startCondition s).sdaDrv = .low := rfl
@[simp] theorem startCondition_ackr : (startCondition s).ackr = s.ackr := rfl
@[simp] theorem startCondition_state : (startCondition s).state = .startCondition := rfl
@[simp] theorem startCondition_sa : (startCondition s).sa = s.sa := rfl
@[simp] theorem startCondition_mode : (startCondition s).mode = s.mode := rfl
@[simp] theorem startCondition_ra : (startCondition s).ra = s.ra := rfl
@[simp] theorem startCondition_configured : (startCondition s).configured = s.configured := rfl
@[simp] theorem startCondition_div : (startCondition s).div = s.div := rfl
@[simp] theorem startCondition_tcnt : (startCondition s).tcnt = 0#32 := rfl
@[simp] theorem startCondition_tolim : (startCondition s).tolim = s.tolim := rfl
@[simp] theorem startCondition_stretchCnt : (startCondition s).stretchCnt = 0#16 := rfl
@[simp] theorem startCondition_run : (startCondition s).run = s.run := rfl
@[simp] theorem startCondition_cmd : (startCondition s).cmd = s.cmd := rfl
@[simp] theorem startCondition_ovr : (startCondition s).ovr = s.ovr := rfl
@[simp] theorem startCondition_result : (startCondition s).result = s.result := rfl
@[simp] theorem startCondition_txbuf : (startCondition s).txbuf = s.txbuf := rfl
@[simp] theorem startCondition_rxbuf : (startCondition s).rxbuf = s.rxbuf := rfl
@[simp] theorem startCondition_upc : (startCondition s).upc = s.upc := rfl
@[simp] theorem startCondition_txb : (startCondition s).txb = s.txb := rfl
@[simp] theorem startCondition_rxb : (startCondition s).rxb = s.rxb := rfl
@[simp] theorem startCondition_i : (startCondition s).i = s.i := rfl
@[simp] theorem startCondition_att : (startCondition s).att = s.att := rfl
@[simp] theorem startCondition_xfer : (startCondition s).xfer = s.xfer := rfl
@[simp] theorem startCondition_nakph : (startCondition s).nakph = s.nakph := rfl
@[simp] theorem startCondition_eSdaLow : (startCondition s).eSdaLow = s.eSdaLow := rfl
@[simp] theorem startCondition_eSclLow : (startCondition s).eSclLow = s.eSclLow := rfl
@[simp] theorem startCondition_rstN : (startCondition s).rstN = s.rstN := rfl
@[simp] theorem startCondition_hrdata : (startCondition s).hrdata = s.hrdata := rfl
@[simp] theorem startCondition_draw : (startCondition s).draw = s.draw := rfl
@[simp] theorem startCondition_agenda : (startCondition s).agenda = s.agenda := rfl

/-! `restartCondition` (R174). -/

@[simp] theorem restartCondition_params (r : Restart) : (restartCondition r s).params = s.params := rfl
@[simp] theorem restartCondition_enabled (r : Restart) : (restartCondition r s).enabled = s.enabled := rfl
@[simp] theorem restartCondition_phase (r : Restart) : (restartCondition r s).phase = s.phase := rfl
@[simp] theorem restartCondition_scla (r : Restart) : (restartCondition r s).scla = s.scla := rfl
@[simp] theorem restartCondition_sclO (r : Restart) : (restartCondition r s).sclO = s.sclO := rfl
@[simp] theorem restartCondition_sdaDrv (r : Restart) : (restartCondition r s).sdaDrv = s.sdaDrv := rfl
@[simp] theorem restartCondition_ackr (r : Restart) : (restartCondition r s).ackr = s.ackr := rfl
@[simp] theorem restartCondition_state (r : Restart) : (restartCondition r s).state = .repeatedStart := rfl
@[simp] theorem restartCondition_sa (r : Restart) : (restartCondition r s).sa = s.sa := rfl
@[simp] theorem restartCondition_mode (r : Restart) : (restartCondition r s).mode = s.mode := rfl
@[simp] theorem restartCondition_ra (r : Restart) : (restartCondition r s).ra = s.ra := rfl
@[simp] theorem restartCondition_configured (r : Restart) : (restartCondition r s).configured = s.configured := rfl
@[simp] theorem restartCondition_div (r : Restart) : (restartCondition r s).div = s.div := rfl
@[simp] theorem restartCondition_tcnt (r : Restart) : (restartCondition r s).tcnt = s.tcnt := rfl
@[simp] theorem restartCondition_tolim (r : Restart) : (restartCondition r s).tolim = s.tolim := rfl
@[simp] theorem restartCondition_stretchCnt (r : Restart) : (restartCondition r s).stretchCnt = s.stretchCnt := rfl
@[simp] theorem restartCondition_run (r : Restart) : (restartCondition r s).run = s.run := rfl
@[simp] theorem restartCondition_cmd (r : Restart) : (restartCondition r s).cmd = s.cmd := rfl
@[simp] theorem restartCondition_ovr (r : Restart) : (restartCondition r s).ovr = s.ovr := rfl
@[simp] theorem restartCondition_result (r : Restart) : (restartCondition r s).result = s.result := rfl
@[simp] theorem restartCondition_txbuf (r : Restart) : (restartCondition r s).txbuf = s.txbuf := rfl
@[simp] theorem restartCondition_rxbuf (r : Restart) : (restartCondition r s).rxbuf = s.rxbuf := rfl
@[simp] theorem restartCondition_upc (r : Restart) : (restartCondition r s).upc = .rsLow r := rfl
@[simp] theorem restartCondition_txb (r : Restart) : (restartCondition r s).txb = s.txb := rfl
@[simp] theorem restartCondition_rxb (r : Restart) : (restartCondition r s).rxb = s.rxb := rfl
@[simp] theorem restartCondition_i (r : Restart) : (restartCondition r s).i = s.i := rfl
@[simp] theorem restartCondition_att (r : Restart) : (restartCondition r s).att = s.att := rfl
@[simp] theorem restartCondition_xfer (r : Restart) : (restartCondition r s).xfer = s.xfer := rfl
@[simp] theorem restartCondition_nakph (r : Restart) : (restartCondition r s).nakph = s.nakph := rfl
@[simp] theorem restartCondition_eSdaLow (r : Restart) : (restartCondition r s).eSdaLow = s.eSdaLow := rfl
@[simp] theorem restartCondition_eSclLow (r : Restart) : (restartCondition r s).eSclLow = s.eSclLow := rfl
@[simp] theorem restartCondition_rstN (r : Restart) : (restartCondition r s).rstN = s.rstN := rfl
@[simp] theorem restartCondition_hrdata (r : Restart) : (restartCondition r s).hrdata = s.hrdata := rfl
@[simp] theorem restartCondition_draw (r : Restart) : (restartCondition r s).draw = s.draw := rfl
@[simp] theorem restartCondition_agenda (r : Restart) : (restartCondition r s).agenda = s.agenda := rfl

/-! `stopCondition` (R175). -/

@[simp] theorem stopCondition_params (c : ResultCode) : (stopCondition c s).params = s.params := rfl
@[simp] theorem stopCondition_enabled (c : ResultCode) : (stopCondition c s).enabled = s.enabled := rfl
@[simp] theorem stopCondition_phase (c : ResultCode) : (stopCondition c s).phase = s.phase := rfl
@[simp] theorem stopCondition_scla (c : ResultCode) : (stopCondition c s).scla = s.scla := rfl
@[simp] theorem stopCondition_sclO (c : ResultCode) : (stopCondition c s).sclO = s.sclO := rfl
@[simp] theorem stopCondition_sdaDrv (c : ResultCode) : (stopCondition c s).sdaDrv = s.sdaDrv := rfl
@[simp] theorem stopCondition_ackr (c : ResultCode) : (stopCondition c s).ackr = s.ackr := rfl
@[simp] theorem stopCondition_state (c : ResultCode) : (stopCondition c s).state = .stopCondition := rfl
@[simp] theorem stopCondition_sa (c : ResultCode) : (stopCondition c s).sa = s.sa := rfl
@[simp] theorem stopCondition_mode (c : ResultCode) : (stopCondition c s).mode = s.mode := rfl
@[simp] theorem stopCondition_ra (c : ResultCode) : (stopCondition c s).ra = s.ra := rfl
@[simp] theorem stopCondition_configured (c : ResultCode) : (stopCondition c s).configured = s.configured := rfl
@[simp] theorem stopCondition_div (c : ResultCode) : (stopCondition c s).div = s.div := rfl
@[simp] theorem stopCondition_tcnt (c : ResultCode) : (stopCondition c s).tcnt = s.tcnt := rfl
@[simp] theorem stopCondition_tolim (c : ResultCode) : (stopCondition c s).tolim = s.tolim := rfl
@[simp] theorem stopCondition_stretchCnt (c : ResultCode) : (stopCondition c s).stretchCnt = s.stretchCnt := rfl
@[simp] theorem stopCondition_run (c : ResultCode) : (stopCondition c s).run = s.run := rfl
@[simp] theorem stopCondition_cmd (c : ResultCode) : (stopCondition c s).cmd = s.cmd := rfl
@[simp] theorem stopCondition_ovr (c : ResultCode) : (stopCondition c s).ovr = s.ovr := rfl
@[simp] theorem stopCondition_result (c : ResultCode) : (stopCondition c s).result = s.result := rfl
@[simp] theorem stopCondition_txbuf (c : ResultCode) : (stopCondition c s).txbuf = s.txbuf := rfl
@[simp] theorem stopCondition_rxbuf (c : ResultCode) : (stopCondition c s).rxbuf = s.rxbuf := rfl
@[simp] theorem stopCondition_upc (c : ResultCode) : (stopCondition c s).upc = .stopLow c := rfl
@[simp] theorem stopCondition_txb (c : ResultCode) : (stopCondition c s).txb = s.txb := rfl
@[simp] theorem stopCondition_rxb (c : ResultCode) : (stopCondition c s).rxb = s.rxb := rfl
@[simp] theorem stopCondition_i (c : ResultCode) : (stopCondition c s).i = s.i := rfl
@[simp] theorem stopCondition_att (c : ResultCode) : (stopCondition c s).att = s.att := rfl
@[simp] theorem stopCondition_xfer (c : ResultCode) : (stopCondition c s).xfer = s.xfer := rfl
@[simp] theorem stopCondition_nakph (c : ResultCode) : (stopCondition c s).nakph = s.nakph := rfl
@[simp] theorem stopCondition_eSdaLow (c : ResultCode) : (stopCondition c s).eSdaLow = s.eSdaLow := rfl
@[simp] theorem stopCondition_eSclLow (c : ResultCode) : (stopCondition c s).eSclLow = s.eSclLow := rfl
@[simp] theorem stopCondition_rstN (c : ResultCode) : (stopCondition c s).rstN = s.rstN := rfl
@[simp] theorem stopCondition_hrdata (c : ResultCode) : (stopCondition c s).hrdata = s.hrdata := rfl
@[simp] theorem stopCondition_draw (c : ResultCode) : (stopCondition c s).draw = s.draw := rfl
@[simp] theorem stopCondition_agenda (c : ResultCode) : (stopCondition c s).agenda = s.agenda := rfl

/-! `complete` (R183). -/

@[simp] theorem complete_params (c : ResultCode) : (complete c s).params = s.params := rfl
@[simp] theorem complete_enabled (c : ResultCode) : (complete c s).enabled = s.enabled := rfl
@[simp] theorem complete_phase (c : ResultCode) : (complete c s).phase = s.phase := rfl
@[simp] theorem complete_scla (c : ResultCode) : (complete c s).scla = s.scla := rfl
@[simp] theorem complete_sclO (c : ResultCode) : (complete c s).sclO = s.sclO := rfl
@[simp] theorem complete_sdaDrv (c : ResultCode) : (complete c s).sdaDrv = s.sdaDrv := rfl
@[simp] theorem complete_ackr (c : ResultCode) : (complete c s).ackr = s.ackr := rfl
@[simp] theorem complete_state (c : ResultCode) : (complete c s).state = s.state := rfl
@[simp] theorem complete_sa (c : ResultCode) : (complete c s).sa = s.sa := rfl
@[simp] theorem complete_mode (c : ResultCode) : (complete c s).mode = s.mode := rfl
@[simp] theorem complete_ra (c : ResultCode) : (complete c s).ra = s.ra := rfl
@[simp] theorem complete_configured (c : ResultCode) : (complete c s).configured = s.configured := rfl
@[simp] theorem complete_div (c : ResultCode) : (complete c s).div = s.div := rfl
@[simp] theorem complete_tcnt (c : ResultCode) : (complete c s).tcnt = s.tcnt := rfl
@[simp] theorem complete_tolim (c : ResultCode) : (complete c s).tolim = s.tolim := rfl
@[simp] theorem complete_stretchCnt (c : ResultCode) : (complete c s).stretchCnt = s.stretchCnt := rfl
@[simp] theorem complete_run (c : ResultCode) : (complete c s).run = false := rfl
@[simp] theorem complete_cmd (c : ResultCode) : (complete c s).cmd = s.cmd := rfl
@[simp] theorem complete_ovr (c : ResultCode) : (complete c s).ovr = s.ovr := rfl
@[simp] theorem complete_result (c : ResultCode) : (complete c s).result = resultWord (Word.op s.cmd) s.att s.xfer s.nakph c := rfl
@[simp] theorem complete_txbuf (c : ResultCode) : (complete c s).txbuf = s.txbuf := rfl
@[simp] theorem complete_rxbuf (c : ResultCode) : (complete c s).rxbuf = s.rxbuf := rfl
@[simp] theorem complete_upc (c : ResultCode) : (complete c s).upc = .noRoutine := rfl
@[simp] theorem complete_txb (c : ResultCode) : (complete c s).txb = s.txb := rfl
@[simp] theorem complete_rxb (c : ResultCode) : (complete c s).rxb = s.rxb := rfl
@[simp] theorem complete_i (c : ResultCode) : (complete c s).i = s.i := rfl
@[simp] theorem complete_att (c : ResultCode) : (complete c s).att = s.att := rfl
@[simp] theorem complete_xfer (c : ResultCode) : (complete c s).xfer = s.xfer := rfl
@[simp] theorem complete_nakph (c : ResultCode) : (complete c s).nakph = s.nakph := rfl
@[simp] theorem complete_eSdaLow (c : ResultCode) : (complete c s).eSdaLow = s.eSdaLow := rfl
@[simp] theorem complete_eSclLow (c : ResultCode) : (complete c s).eSclLow = s.eSclLow := rfl
@[simp] theorem complete_rstN (c : ResultCode) : (complete c s).rstN = s.rstN := rfl
@[simp] theorem complete_hrdata (c : ResultCode) : (complete c s).hrdata = s.hrdata := rfl
@[simp] theorem complete_draw (c : ResultCode) : (complete c s).draw = s.draw := rfl
@[simp] theorem complete_agenda (c : ResultCode) : (complete c s).agenda = s.agenda := rfl

/-! `forcedRelease` (R226). -/

@[simp] theorem forcedRelease_params : (forcedRelease s).params = s.params := rfl
@[simp] theorem forcedRelease_enabled : (forcedRelease s).enabled = false := rfl
@[simp] theorem forcedRelease_phase : (forcedRelease s).phase = s.phase := rfl
@[simp] theorem forcedRelease_scla : (forcedRelease s).scla = false := rfl
@[simp] theorem forcedRelease_sclO : (forcedRelease s).sclO = true := rfl
@[simp] theorem forcedRelease_sdaDrv : (forcedRelease s).sdaDrv = .hiz := rfl
@[simp] theorem forcedRelease_ackr : (forcedRelease s).ackr = s.ackr := rfl
@[simp] theorem forcedRelease_state : (forcedRelease s).state = .idle := rfl
@[simp] theorem forcedRelease_sa : (forcedRelease s).sa = s.sa := rfl
@[simp] theorem forcedRelease_mode : (forcedRelease s).mode = s.mode := rfl
@[simp] theorem forcedRelease_ra : (forcedRelease s).ra = s.ra := rfl
@[simp] theorem forcedRelease_configured : (forcedRelease s).configured = s.configured := rfl
@[simp] theorem forcedRelease_div : (forcedRelease s).div = s.div := rfl
@[simp] theorem forcedRelease_tcnt : (forcedRelease s).tcnt = 0#32 := rfl
@[simp] theorem forcedRelease_tolim : (forcedRelease s).tolim = s.tolim := rfl
@[simp] theorem forcedRelease_stretchCnt : (forcedRelease s).stretchCnt = s.stretchCnt := rfl
@[simp] theorem forcedRelease_run : (forcedRelease s).run = false := rfl
@[simp] theorem forcedRelease_cmd : (forcedRelease s).cmd = s.cmd := rfl
@[simp] theorem forcedRelease_ovr : (forcedRelease s).ovr = s.ovr := rfl
@[simp] theorem forcedRelease_result : (forcedRelease s).result = resultWord (Word.op s.cmd) s.att s.xfer s.nakph .clockStretchTimeout := rfl
@[simp] theorem forcedRelease_txbuf : (forcedRelease s).txbuf = s.txbuf := rfl
@[simp] theorem forcedRelease_rxbuf : (forcedRelease s).rxbuf = s.rxbuf := rfl
@[simp] theorem forcedRelease_upc : (forcedRelease s).upc = .noRoutine := rfl
@[simp] theorem forcedRelease_txb : (forcedRelease s).txb = s.txb := rfl
@[simp] theorem forcedRelease_rxb : (forcedRelease s).rxb = s.rxb := rfl
@[simp] theorem forcedRelease_i : (forcedRelease s).i = s.i := rfl
@[simp] theorem forcedRelease_att : (forcedRelease s).att = s.att := rfl
@[simp] theorem forcedRelease_xfer : (forcedRelease s).xfer = s.xfer := rfl
@[simp] theorem forcedRelease_nakph : (forcedRelease s).nakph = s.nakph := rfl
@[simp] theorem forcedRelease_eSdaLow : (forcedRelease s).eSdaLow = s.eSdaLow := rfl
@[simp] theorem forcedRelease_eSclLow : (forcedRelease s).eSclLow = s.eSclLow := rfl
@[simp] theorem forcedRelease_rstN : (forcedRelease s).rstN = s.rstN := rfl
@[simp] theorem forcedRelease_hrdata : (forcedRelease s).hrdata = s.hrdata := rfl
@[simp] theorem forcedRelease_draw : (forcedRelease s).draw = s.draw := rfl
@[simp] theorem forcedRelease_agenda : (forcedRelease s).agenda = s.agenda := rfl

/-! `clearCounters` (R172). -/

@[simp] theorem clearCounters_params : (clearCounters s).params = s.params := rfl
@[simp] theorem clearCounters_enabled : (clearCounters s).enabled = s.enabled := rfl
@[simp] theorem clearCounters_phase : (clearCounters s).phase = s.phase := rfl
@[simp] theorem clearCounters_scla : (clearCounters s).scla = s.scla := rfl
@[simp] theorem clearCounters_sclO : (clearCounters s).sclO = s.sclO := rfl
@[simp] theorem clearCounters_sdaDrv : (clearCounters s).sdaDrv = s.sdaDrv := rfl
@[simp] theorem clearCounters_ackr : (clearCounters s).ackr = s.ackr := rfl
@[simp] theorem clearCounters_state : (clearCounters s).state = s.state := rfl
@[simp] theorem clearCounters_sa : (clearCounters s).sa = s.sa := rfl
@[simp] theorem clearCounters_mode : (clearCounters s).mode = s.mode := rfl
@[simp] theorem clearCounters_ra : (clearCounters s).ra = s.ra := rfl
@[simp] theorem clearCounters_configured : (clearCounters s).configured = s.configured := rfl
@[simp] theorem clearCounters_div : (clearCounters s).div = s.div := rfl
@[simp] theorem clearCounters_tcnt : (clearCounters s).tcnt = s.tcnt := rfl
@[simp] theorem clearCounters_tolim : (clearCounters s).tolim = s.tolim := rfl
@[simp] theorem clearCounters_stretchCnt : (clearCounters s).stretchCnt = s.stretchCnt := rfl
@[simp] theorem clearCounters_run : (clearCounters s).run = s.run := rfl
@[simp] theorem clearCounters_cmd : (clearCounters s).cmd = s.cmd := rfl
@[simp] theorem clearCounters_ovr : (clearCounters s).ovr = s.ovr := rfl
@[simp] theorem clearCounters_result : (clearCounters s).result = s.result := rfl
@[simp] theorem clearCounters_txbuf : (clearCounters s).txbuf = s.txbuf := rfl
@[simp] theorem clearCounters_rxbuf : (clearCounters s).rxbuf = s.rxbuf := rfl
@[simp] theorem clearCounters_upc : (clearCounters s).upc = s.upc := rfl
@[simp] theorem clearCounters_txb : (clearCounters s).txb = s.txb := rfl
@[simp] theorem clearCounters_rxb : (clearCounters s).rxb = s.rxb := rfl
@[simp] theorem clearCounters_i : (clearCounters s).i = s.i := rfl
@[simp] theorem clearCounters_att : (clearCounters s).att = 0#4 := rfl
@[simp] theorem clearCounters_xfer : (clearCounters s).xfer = 0#9 := rfl
@[simp] theorem clearCounters_nakph : (clearCounters s).nakph = 0#2 := rfl
@[simp] theorem clearCounters_eSdaLow : (clearCounters s).eSdaLow = s.eSdaLow := rfl
@[simp] theorem clearCounters_eSclLow : (clearCounters s).eSclLow = s.eSclLow := rfl
@[simp] theorem clearCounters_rstN : (clearCounters s).rstN = s.rstN := rfl
@[simp] theorem clearCounters_hrdata : (clearCounters s).hrdata = s.hrdata := rfl
@[simp] theorem clearCounters_draw : (clearCounters s).draw = s.draw := rfl
@[simp] theorem clearCounters_agenda : (clearCounters s).agenda = s.agenda := rfl

/-! `writeTx` (R52). -/

@[simp] theorem writeTx_params (j : Nat) (v : Byte) : (writeTx j v s).params = s.params := rfl
@[simp] theorem writeTx_enabled (j : Nat) (v : Byte) : (writeTx j v s).enabled = s.enabled := rfl
@[simp] theorem writeTx_phase (j : Nat) (v : Byte) : (writeTx j v s).phase = s.phase := rfl
@[simp] theorem writeTx_scla (j : Nat) (v : Byte) : (writeTx j v s).scla = s.scla := rfl
@[simp] theorem writeTx_sclO (j : Nat) (v : Byte) : (writeTx j v s).sclO = s.sclO := rfl
@[simp] theorem writeTx_sdaDrv (j : Nat) (v : Byte) : (writeTx j v s).sdaDrv = s.sdaDrv := rfl
@[simp] theorem writeTx_ackr (j : Nat) (v : Byte) : (writeTx j v s).ackr = s.ackr := rfl
@[simp] theorem writeTx_state (j : Nat) (v : Byte) : (writeTx j v s).state = s.state := rfl
@[simp] theorem writeTx_sa (j : Nat) (v : Byte) : (writeTx j v s).sa = s.sa := rfl
@[simp] theorem writeTx_mode (j : Nat) (v : Byte) : (writeTx j v s).mode = s.mode := rfl
@[simp] theorem writeTx_ra (j : Nat) (v : Byte) : (writeTx j v s).ra = s.ra := rfl
@[simp] theorem writeTx_configured (j : Nat) (v : Byte) : (writeTx j v s).configured = s.configured := rfl
@[simp] theorem writeTx_div (j : Nat) (v : Byte) : (writeTx j v s).div = s.div := rfl
@[simp] theorem writeTx_tcnt (j : Nat) (v : Byte) : (writeTx j v s).tcnt = s.tcnt := rfl
@[simp] theorem writeTx_tolim (j : Nat) (v : Byte) : (writeTx j v s).tolim = s.tolim := rfl
@[simp] theorem writeTx_stretchCnt (j : Nat) (v : Byte) : (writeTx j v s).stretchCnt = s.stretchCnt := rfl
@[simp] theorem writeTx_run (j : Nat) (v : Byte) : (writeTx j v s).run = s.run := rfl
@[simp] theorem writeTx_cmd (j : Nat) (v : Byte) : (writeTx j v s).cmd = s.cmd := rfl
@[simp] theorem writeTx_ovr (j : Nat) (v : Byte) : (writeTx j v s).ovr = s.ovr := rfl
@[simp] theorem writeTx_result (j : Nat) (v : Byte) : (writeTx j v s).result = s.result := rfl
@[simp] theorem writeTx_txbuf (j : Nat) (v : Byte) : (writeTx j v s).txbuf = Memory.write s.txbuf j v := rfl
@[simp] theorem writeTx_rxbuf (j : Nat) (v : Byte) : (writeTx j v s).rxbuf = s.rxbuf := rfl
@[simp] theorem writeTx_upc (j : Nat) (v : Byte) : (writeTx j v s).upc = s.upc := rfl
@[simp] theorem writeTx_txb (j : Nat) (v : Byte) : (writeTx j v s).txb = s.txb := rfl
@[simp] theorem writeTx_rxb (j : Nat) (v : Byte) : (writeTx j v s).rxb = s.rxb := rfl
@[simp] theorem writeTx_i (j : Nat) (v : Byte) : (writeTx j v s).i = s.i := rfl
@[simp] theorem writeTx_att (j : Nat) (v : Byte) : (writeTx j v s).att = s.att := rfl
@[simp] theorem writeTx_xfer (j : Nat) (v : Byte) : (writeTx j v s).xfer = s.xfer := rfl
@[simp] theorem writeTx_nakph (j : Nat) (v : Byte) : (writeTx j v s).nakph = s.nakph := rfl
@[simp] theorem writeTx_eSdaLow (j : Nat) (v : Byte) : (writeTx j v s).eSdaLow = s.eSdaLow := rfl
@[simp] theorem writeTx_eSclLow (j : Nat) (v : Byte) : (writeTx j v s).eSclLow = s.eSclLow := rfl
@[simp] theorem writeTx_rstN (j : Nat) (v : Byte) : (writeTx j v s).rstN = s.rstN := rfl
@[simp] theorem writeTx_hrdata (j : Nat) (v : Byte) : (writeTx j v s).hrdata = s.hrdata := rfl
@[simp] theorem writeTx_draw (j : Nat) (v : Byte) : (writeTx j v s).draw = s.draw := rfl
@[simp] theorem writeTx_agenda (j : Nat) (v : Byte) : (writeTx j v s).agenda = s.agenda := rfl

/-! `writeRx` (R68). -/

@[simp] theorem writeRx_params (j : Nat) (v : Byte) : (writeRx j v s).params = s.params := rfl
@[simp] theorem writeRx_enabled (j : Nat) (v : Byte) : (writeRx j v s).enabled = s.enabled := rfl
@[simp] theorem writeRx_phase (j : Nat) (v : Byte) : (writeRx j v s).phase = s.phase := rfl
@[simp] theorem writeRx_scla (j : Nat) (v : Byte) : (writeRx j v s).scla = s.scla := rfl
@[simp] theorem writeRx_sclO (j : Nat) (v : Byte) : (writeRx j v s).sclO = s.sclO := rfl
@[simp] theorem writeRx_sdaDrv (j : Nat) (v : Byte) : (writeRx j v s).sdaDrv = s.sdaDrv := rfl
@[simp] theorem writeRx_ackr (j : Nat) (v : Byte) : (writeRx j v s).ackr = s.ackr := rfl
@[simp] theorem writeRx_state (j : Nat) (v : Byte) : (writeRx j v s).state = s.state := rfl
@[simp] theorem writeRx_sa (j : Nat) (v : Byte) : (writeRx j v s).sa = s.sa := rfl
@[simp] theorem writeRx_mode (j : Nat) (v : Byte) : (writeRx j v s).mode = s.mode := rfl
@[simp] theorem writeRx_ra (j : Nat) (v : Byte) : (writeRx j v s).ra = s.ra := rfl
@[simp] theorem writeRx_configured (j : Nat) (v : Byte) : (writeRx j v s).configured = s.configured := rfl
@[simp] theorem writeRx_div (j : Nat) (v : Byte) : (writeRx j v s).div = s.div := rfl
@[simp] theorem writeRx_tcnt (j : Nat) (v : Byte) : (writeRx j v s).tcnt = s.tcnt := rfl
@[simp] theorem writeRx_tolim (j : Nat) (v : Byte) : (writeRx j v s).tolim = s.tolim := rfl
@[simp] theorem writeRx_stretchCnt (j : Nat) (v : Byte) : (writeRx j v s).stretchCnt = s.stretchCnt := rfl
@[simp] theorem writeRx_run (j : Nat) (v : Byte) : (writeRx j v s).run = s.run := rfl
@[simp] theorem writeRx_cmd (j : Nat) (v : Byte) : (writeRx j v s).cmd = s.cmd := rfl
@[simp] theorem writeRx_ovr (j : Nat) (v : Byte) : (writeRx j v s).ovr = s.ovr := rfl
@[simp] theorem writeRx_result (j : Nat) (v : Byte) : (writeRx j v s).result = s.result := rfl
@[simp] theorem writeRx_txbuf (j : Nat) (v : Byte) : (writeRx j v s).txbuf = s.txbuf := rfl
@[simp] theorem writeRx_rxbuf (j : Nat) (v : Byte) : (writeRx j v s).rxbuf = Memory.write s.rxbuf j v := rfl
@[simp] theorem writeRx_upc (j : Nat) (v : Byte) : (writeRx j v s).upc = s.upc := rfl
@[simp] theorem writeRx_txb (j : Nat) (v : Byte) : (writeRx j v s).txb = s.txb := rfl
@[simp] theorem writeRx_rxb (j : Nat) (v : Byte) : (writeRx j v s).rxb = s.rxb := rfl
@[simp] theorem writeRx_i (j : Nat) (v : Byte) : (writeRx j v s).i = s.i := rfl
@[simp] theorem writeRx_att (j : Nat) (v : Byte) : (writeRx j v s).att = s.att := rfl
@[simp] theorem writeRx_xfer (j : Nat) (v : Byte) : (writeRx j v s).xfer = s.xfer := rfl
@[simp] theorem writeRx_nakph (j : Nat) (v : Byte) : (writeRx j v s).nakph = s.nakph := rfl
@[simp] theorem writeRx_eSdaLow (j : Nat) (v : Byte) : (writeRx j v s).eSdaLow = s.eSdaLow := rfl
@[simp] theorem writeRx_eSclLow (j : Nat) (v : Byte) : (writeRx j v s).eSclLow = s.eSclLow := rfl
@[simp] theorem writeRx_rstN (j : Nat) (v : Byte) : (writeRx j v s).rstN = s.rstN := rfl
@[simp] theorem writeRx_hrdata (j : Nat) (v : Byte) : (writeRx j v s).hrdata = s.hrdata := rfl
@[simp] theorem writeRx_draw (j : Nat) (v : Byte) : (writeRx j v s).draw = s.draw := rfl
@[simp] theorem writeRx_agenda (j : Nat) (v : Byte) : (writeRx j v s).agenda = s.agenda := rfl

/-! `loadPayload` (R179). -/

@[simp] theorem loadPayload_params (j : Nat) : (loadPayload j s).params = s.params := rfl
@[simp] theorem loadPayload_enabled (j : Nat) : (loadPayload j s).enabled = s.enabled := rfl
@[simp] theorem loadPayload_phase (j : Nat) : (loadPayload j s).phase = s.phase := rfl
@[simp] theorem loadPayload_scla (j : Nat) : (loadPayload j s).scla = s.scla := rfl
@[simp] theorem loadPayload_sclO (j : Nat) : (loadPayload j s).sclO = s.sclO := rfl
@[simp] theorem loadPayload_sdaDrv (j : Nat) : (loadPayload j s).sdaDrv = s.sdaDrv := rfl
@[simp] theorem loadPayload_ackr (j : Nat) : (loadPayload j s).ackr = s.ackr := rfl
@[simp] theorem loadPayload_state (j : Nat) : (loadPayload j s).state = s.state := rfl
@[simp] theorem loadPayload_sa (j : Nat) : (loadPayload j s).sa = s.sa := rfl
@[simp] theorem loadPayload_mode (j : Nat) : (loadPayload j s).mode = s.mode := rfl
@[simp] theorem loadPayload_ra (j : Nat) : (loadPayload j s).ra = s.ra := rfl
@[simp] theorem loadPayload_configured (j : Nat) : (loadPayload j s).configured = s.configured := rfl
@[simp] theorem loadPayload_div (j : Nat) : (loadPayload j s).div = s.div := rfl
@[simp] theorem loadPayload_tcnt (j : Nat) : (loadPayload j s).tcnt = s.tcnt := rfl
@[simp] theorem loadPayload_tolim (j : Nat) : (loadPayload j s).tolim = s.tolim := rfl
@[simp] theorem loadPayload_stretchCnt (j : Nat) : (loadPayload j s).stretchCnt = s.stretchCnt := rfl
@[simp] theorem loadPayload_run (j : Nat) : (loadPayload j s).run = s.run := rfl
@[simp] theorem loadPayload_cmd (j : Nat) : (loadPayload j s).cmd = s.cmd := rfl
@[simp] theorem loadPayload_ovr (j : Nat) : (loadPayload j s).ovr = s.ovr := rfl
@[simp] theorem loadPayload_result (j : Nat) : (loadPayload j s).result = s.result := rfl
@[simp] theorem loadPayload_txbuf (j : Nat) : (loadPayload j s).txbuf = s.txbuf := rfl
@[simp] theorem loadPayload_rxbuf (j : Nat) : (loadPayload j s).rxbuf = s.rxbuf := rfl
@[simp] theorem loadPayload_upc (j : Nat) : (loadPayload j s).upc = .bitLow .payload 7 := rfl
@[simp] theorem loadPayload_txb (j : Nat) : (loadPayload j s).txb = s.readTx j := rfl
@[simp] theorem loadPayload_rxb (j : Nat) : (loadPayload j s).rxb = s.rxb := rfl
@[simp] theorem loadPayload_i (j : Nat) : (loadPayload j s).i = BitVec.ofNat 9 j := rfl
@[simp] theorem loadPayload_att (j : Nat) : (loadPayload j s).att = 1#4 := rfl
@[simp] theorem loadPayload_xfer (j : Nat) : (loadPayload j s).xfer = s.xfer := rfl
@[simp] theorem loadPayload_nakph (j : Nat) : (loadPayload j s).nakph = s.nakph := rfl
@[simp] theorem loadPayload_eSdaLow (j : Nat) : (loadPayload j s).eSdaLow = s.eSdaLow := rfl
@[simp] theorem loadPayload_eSclLow (j : Nat) : (loadPayload j s).eSclLow = s.eSclLow := rfl
@[simp] theorem loadPayload_rstN (j : Nat) : (loadPayload j s).rstN = s.rstN := rfl
@[simp] theorem loadPayload_hrdata (j : Nat) : (loadPayload j s).hrdata = s.hrdata := rfl
@[simp] theorem loadPayload_draw (j : Nat) : (loadPayload j s).draw = s.draw := rfl
@[simp] theorem loadPayload_agenda (j : Nat) : (loadPayload j s).agenda = s.agenda := rfl

/-! `beginReceive` (R180). -/

@[simp] theorem beginReceive_params (j : Nat) : (beginReceive j s).params = s.params := rfl
@[simp] theorem beginReceive_enabled (j : Nat) : (beginReceive j s).enabled = s.enabled := rfl
@[simp] theorem beginReceive_phase (j : Nat) : (beginReceive j s).phase = s.phase := rfl
@[simp] theorem beginReceive_scla (j : Nat) : (beginReceive j s).scla = s.scla := rfl
@[simp] theorem beginReceive_sclO (j : Nat) : (beginReceive j s).sclO = s.sclO := rfl
@[simp] theorem beginReceive_sdaDrv (j : Nat) : (beginReceive j s).sdaDrv = s.sdaDrv := rfl
@[simp] theorem beginReceive_ackr (j : Nat) : (beginReceive j s).ackr = s.ackr := rfl
@[simp] theorem beginReceive_state (j : Nat) : (beginReceive j s).state = s.state := rfl
@[simp] theorem beginReceive_sa (j : Nat) : (beginReceive j s).sa = s.sa := rfl
@[simp] theorem beginReceive_mode (j : Nat) : (beginReceive j s).mode = s.mode := rfl
@[simp] theorem beginReceive_ra (j : Nat) : (beginReceive j s).ra = s.ra := rfl
@[simp] theorem beginReceive_configured (j : Nat) : (beginReceive j s).configured = s.configured := rfl
@[simp] theorem beginReceive_div (j : Nat) : (beginReceive j s).div = s.div := rfl
@[simp] theorem beginReceive_tcnt (j : Nat) : (beginReceive j s).tcnt = s.tcnt := rfl
@[simp] theorem beginReceive_tolim (j : Nat) : (beginReceive j s).tolim = s.tolim := rfl
@[simp] theorem beginReceive_stretchCnt (j : Nat) : (beginReceive j s).stretchCnt = s.stretchCnt := rfl
@[simp] theorem beginReceive_run (j : Nat) : (beginReceive j s).run = s.run := rfl
@[simp] theorem beginReceive_cmd (j : Nat) : (beginReceive j s).cmd = s.cmd := rfl
@[simp] theorem beginReceive_ovr (j : Nat) : (beginReceive j s).ovr = s.ovr := rfl
@[simp] theorem beginReceive_result (j : Nat) : (beginReceive j s).result = s.result := rfl
@[simp] theorem beginReceive_txbuf (j : Nat) : (beginReceive j s).txbuf = s.txbuf := rfl
@[simp] theorem beginReceive_rxbuf (j : Nat) : (beginReceive j s).rxbuf = s.rxbuf := rfl
@[simp] theorem beginReceive_upc (j : Nat) : (beginReceive j s).upc = .rxHigh 7 := rfl
@[simp] theorem beginReceive_txb (j : Nat) : (beginReceive j s).txb = s.txb := rfl
@[simp] theorem beginReceive_rxb (j : Nat) : (beginReceive j s).rxb = 0#8 := rfl
@[simp] theorem beginReceive_i (j : Nat) : (beginReceive j s).i = BitVec.ofNat 9 j := rfl
@[simp] theorem beginReceive_att (j : Nat) : (beginReceive j s).att = s.att := rfl
@[simp] theorem beginReceive_xfer (j : Nat) : (beginReceive j s).xfer = s.xfer := rfl
@[simp] theorem beginReceive_nakph (j : Nat) : (beginReceive j s).nakph = s.nakph := rfl
@[simp] theorem beginReceive_eSdaLow (j : Nat) : (beginReceive j s).eSdaLow = s.eSdaLow := rfl
@[simp] theorem beginReceive_eSclLow (j : Nat) : (beginReceive j s).eSclLow = s.eSclLow := rfl
@[simp] theorem beginReceive_rstN (j : Nat) : (beginReceive j s).rstN = s.rstN := rfl
@[simp] theorem beginReceive_hrdata (j : Nat) : (beginReceive j s).hrdata = s.hrdata := rfl
@[simp] theorem beginReceive_draw (j : Nat) : (beginReceive j s).draw = s.draw := rfl
@[simp] theorem beginReceive_agenda (j : Nat) : (beginReceive j s).agenda = s.agenda := rfl

end Sys2Proof.Machine
end

