-- ==== Sys2Proof/Laws/Memory.lean ====
section
/-! SUPPORT. The buffers: read after write, and every write keeps the canonical form. -/

namespace Sys2Proof.Machine

theorem Memory.nil_wf : Memory.wf [] := ⟨List.Pairwise.nil, by simp⟩

@[simp] theorem Memory.read_write_same (m : Memory) (a : Nat) (v : Byte) :
    Memory.read (Memory.write m a v) a = some v := by
  induction m with
  | nil => simp [Memory.write, Memory.read]
  | cons c m ih =>
    obtain ⟨k, w⟩ := c
    simp only [Memory.write]
    split
    · simp [Memory.read]
    · split
      · simp [Memory.read]
      · rename_i h; simp [Memory.read, Ne.symm h, ih]

theorem Memory.read_write_other (m : Memory) {a b : Nat} (h : b ≠ a) (v : Byte) :
    Memory.read (Memory.write m a v) b = Memory.read m b := by
  induction m with
  | nil => simp [Memory.write, Memory.read, Ne.symm h]
  | cons c m ih =>
    obtain ⟨k, w⟩ := c
    simp only [Memory.write]
    split
    · simp [Memory.read, Ne.symm h]
    · split
      · rename_i hk; subst hk; simp [Memory.read, Ne.symm h]
      · simp [Memory.read, ih]

/-- What a write puts into the list: the new entry beside old ones. -/
theorem Memory.mem_write {m : Memory} {a : Nat} {v : Byte} {c : Host.Cell} (h : c ∈ Memory.write m a v) :
    c = (a, v) ∨ c ∈ m := by
  induction m with
  | nil => simpa [Memory.write] using h
  | cons d m ih =>
    obtain ⟨k, w⟩ := d
    simp only [Memory.write] at h
    split at h
    · simpa using h
    · split at h
      · rcases List.mem_cons.1 h with h | h
        · exact .inl h
        · exact .inr (List.mem_cons_of_mem _ h)
      · rcases List.mem_cons.1 h with h | h
        · exact .inr (by simp [h])
        · rcases ih h with h | h
          · exact .inl h
          · exact .inr (List.mem_cons_of_mem _ h)

theorem Memory.write_wf {m : Memory} (hm : Memory.wf m) {a : Nat} (ha : a < bufSize) (v : Byte) :
    Memory.wf (Memory.write m a v) := by
  refine ⟨?_, fun c hc => ?_⟩
  · have hp := hm.1
    clear hm
    induction m with
    | nil => simp [Memory.write]
    | cons d m ih =>
      obtain ⟨k, w⟩ := d
      rw [List.pairwise_cons] at hp
      simp only [Memory.write]
      split
      · rename_i hk
        refine List.pairwise_cons.2 ⟨fun c hc => ?_, List.pairwise_cons.2 hp⟩
        rcases List.mem_cons.1 hc with rfl | hc
        · exact hk
        · exact Nat.lt_trans hk (hp.1 c hc)
      · split
        · rename_i hk; subst hk
          exact List.pairwise_cons.2 hp
        · refine List.pairwise_cons.2 ⟨fun c hc => ?_, ih hp.2⟩
          rcases Memory.mem_write hc with rfl | hc
          · simp only; omega
          · exact hp.1 c hc
  · rcases Memory.mem_write hc with rfl | hc
    · exact ha
    · exact hm.2 c hc

theorem Memory.read_of_mem {m : Memory} (hm : Memory.wf m) {c : Host.Cell} (hc : c ∈ m) :
    Memory.read m c.1 = some c.2 := by
  obtain ⟨hp, -⟩ := hm
  induction m with
  | nil => simp at hc
  | cons d m ih =>
    obtain ⟨k, w⟩ := d
    rw [List.pairwise_cons] at hp
    rcases List.mem_cons.1 hc with rfl | hc
    · simp [Memory.read]
    · have : k ≠ c.1 := Nat.ne_of_lt (hp.1 c hc)
      simp [Memory.read, this, ih hc hp.2]

theorem Memory.mem_of_read {m : Memory} {a : Nat} {v : Byte} (h : Memory.read m a = some v) : (a, v) ∈ m := by
  induction m with
  | nil => simp [Memory.read] at h
  | cons d m ih =>
    obtain ⟨k, w⟩ := d
    simp only [Memory.read] at h
    split at h
    · rename_i hk; simp_all
    · exact List.mem_cons_of_mem _ (ih h)

/-- Equal memories are equal data: two canonical lists that read alike are the same list. -/
theorem Memory.ext_of_wf {m n : Memory} (hm : Memory.wf m) (hn : Memory.wf n)
    (h : ∀ a, Memory.read m a = Memory.read n a) : m = n := by
  refine List.Perm.eq_of_pairwise (le := fun x y => x.1 < y.1) ?_ hm.1 hn.1 ?_
  · intro x y _ _ hx hy
    exact absurd hx (Nat.lt_asymm hy)
  · have nd : ∀ {l : Memory}, Memory.wf l → l.Nodup := fun hl =>
      hl.1.imp (fun {x y} hxy heq => by subst heq; exact Nat.lt_irrefl _ hxy)
    refine (List.perm_ext_iff_of_nodup (nd hm) (nd hn)).2 fun c => ⟨fun hc => ?_, fun hc => ?_⟩
    · exact Memory.mem_of_read ((h c.1) ▸ Memory.read_of_mem hm hc)
    · exact Memory.mem_of_read ((h c.1).symm ▸ Memory.read_of_mem hn hc)

/-! The buffers as the state shows them. -/

@[simp] theorem readTx_writeTx_same (s : State) (i : Nat) (v : Byte) : (writeTx i v s).readTx i = v := by
  simp [State.readTx]

theorem readTx_writeTx_other (s : State) {i j : Nat} (h : j ≠ i) (v : Byte) :
    (writeTx i v s).readTx j = s.readTx j := by
  simp [State.readTx, Memory.read_write_other _ h]

@[simp] theorem readRx_writeRx_same (s : State) (i : Nat) (v : Byte) : (writeRx i v s).readRx i = v := by
  simp [State.readRx]

theorem readRx_writeRx_other (s : State) {i j : Nat} (h : j ≠ i) (v : Byte) :
    (writeRx i v s).readRx j = s.readRx j := by
  simp [State.readRx, Memory.read_write_other _ h]

end Sys2Proof.Machine
end

