-- ==== Sys2Proof/Laws/Sequencer.lean ====
section
/-! SUPPORT. What a Sequencer step can do: what it never changes, and that it stops at a false await (R10). -/

namespace Sys2Proof.Machine

/-- What no routine changes after its dispatch: the parameters, the configuration, the phase and the held-tick count (R108),
the latched command and its registers (R72), TXBUF, the host's flags, the inputs. -/
structure KeptByRoutine (s t : State) : Prop where
  params     : t.params = s.params
  phase      : t.phase = s.phase
  configured : t.configured = s.configured
  div        : t.div = s.div
  tolim      : t.tolim = s.tolim
  stretchCnt : t.stretchCnt = s.stretchCnt
  cmd        : t.cmd = s.cmd
  ovr        : t.ovr = s.ovr
  sa         : t.sa = s.sa
  mode       : t.mode = s.mode
  ra         : t.ra = s.ra
  txbuf      : t.txbuf = s.txbuf
  eSdaLow    : t.eSdaLow = s.eSdaLow
  eSclLow    : t.eSclLow = s.eSclLow
  rstN       : t.rstN = s.rstN
  hrdata     : t.hrdata = s.hrdata
  draw       : t.draw = s.draw
  agenda     : t.agenda = s.agenda

theorem KeptByRoutine.refl (s : State) : KeptByRoutine s s := by constructor <;> rfl

theorem KeptByRoutine.trans {s t u : State} (h : KeptByRoutine s t) (k : KeptByRoutine t u) : KeptByRoutine s u := by
  constructor
  · exact k.params.trans h.params
  · exact k.phase.trans h.phase
  · exact k.configured.trans h.configured
  · exact k.div.trans h.div
  · exact k.tolim.trans h.tolim
  · exact k.stretchCnt.trans h.stretchCnt
  · exact k.cmd.trans h.cmd
  · exact k.ovr.trans h.ovr
  · exact k.sa.trans h.sa
  · exact k.mode.trans h.mode
  · exact k.ra.trans h.ra
  · exact k.txbuf.trans h.txbuf
  · exact k.eSdaLow.trans h.eSdaLow
  · exact k.eSclLow.trans h.eSclLow
  · exact k.rstN.trans h.rstN
  · exact k.hrdata.trans h.hrdata
  · exact k.draw.trans h.draw
  · exact k.agenda.trans h.agenda

theorem complete_kept (c : ResultCode) (s : State) : KeptByRoutine s (complete c s) := by constructor <;> rfl

theorem forcedRelease_kept (s : State) : KeptByRoutine s (forcedRelease s) := by constructor <;> rfl

theorem fail_kept (c : ResultCode) (s : State) : KeptByRoutine s (fail c s) := by cases c <;> constructor <;> rfl

theorem beginPayloadRead_kept (s : State) : KeptByRoutine s (beginPayloadRead s) := by
  unfold beginPayloadRead; simp only; split <;> constructor <;> rfl

theorem frameAcked_kept (f : Frame) (s : State) : KeptByRoutine s (frameAcked f s) := by
  rcases f with _ | _ | (_ | _) | _ <;> simp only [frameAcked]
  · constructor <;> rfl
  · exact complete_kept _ _
  · exact complete_kept _ _
  · exact beginPayloadRead_kept s
  · split <;> constructor <;> rfl

theorem frameNacked_kept (f : Frame) (s : State) : KeptByRoutine s (frameNacked f s) := by
  rcases f with _ | _ | (_ | _) | _ <;> simp only [frameNacked]
  · constructor <;> rfl
  · constructor <;> rfl
  · constructor <;> rfl
  · constructor <;> rfl
  · split <;> constructor <;> rfl

theorem receivedBit_kept (k : Fin 8) (b : Bool) (s : State) : KeptByRoutine s (receivedBit k b s) := by
  unfold receivedBit; simp only; split <;> constructor <;> rfl

theorem passAwait_kept (s : State) : KeptByRoutine s (passAwait s) := by
  unfold passAwait
  split
  case h_7 f h =>
    split
    · exact frameAcked_kept f s
    · exact frameNacked_kept f s
  case h_11 k b h => exact receivedBit_kept k b s
  case h_14 h => simp only; split <;> constructor <;> rfl
  all_goals constructor <;> rfl

theorem advance_kept (n : Nat) (s : State) : KeptByRoutine s (advance n s) := by
  induction n generalizing s with
  | zero => exact .refl s
  | succ n ih =>
    unfold advance
    split
    · exact (passAwait_kept s).trans (ih _)
    · exact .refl s

theorem runRoutine_kept (s : State) : KeptByRoutine s (runRoutine s) := advance_kept 4 s

/-! One pass at a time (R10). -/

theorem advance_blocked {s : State} (h : s.canPass = false) (n : Nat) : advance n s = s := by
  cases n <;> simp [advance, h]

theorem advance_pass {s : State} (h : s.canPass = true) (n : Nat) : advance (n + 1) s = advance n (passAwait s) := by
  simp [advance, h]

/-- A routine that cannot pass its await stands still. -/
theorem runRoutine_blocked {s : State} (h : s.canPass = false) : runRoutine s = s := advance_blocked h 4

/-- One await passed, the next one false. -/
theorem runRoutine_once {s : State} (h : s.canPass = true) (h1 : (passAwait s).canPass = false) :
    runRoutine s = passAwait s := by
  rw [runRoutine, advance_pass h, advance_blocked h1]

/-- Two awaits passed, the next one false. -/
theorem runRoutine_twice {s : State} (h : s.canPass = true) (h1 : (passAwait s).canPass = true)
    (h2 : (passAwait (passAwait s)).canPass = false) : runRoutine s = passAwait (passAwait s) := by
  rw [runRoutine, advance_pass h, advance_pass h1, advance_blocked h2]

/-- Nothing is passed once the command has ended. -/
theorem canPass_of_not_running {s : State} (h : s.run = false) : s.canPass = false := by simp [State.canPass, h]

theorem canPass_awaits {s : State} (h : s.canPass = true) : ∃ l, s.upc.awaits = some l ∧ s.holds l = true := by
  unfold State.canPass at h
  cases hl : s.upc.awaits with
  | none => simp [hl] at h
  | some l => exact ⟨l, rfl, by simp_all⟩

theorem not_canPass_of_level {s : State} {l : Level} (h : s.upc.awaits = some l) (hl : s.holds l = false) :
    s.canPass = false := by simp [State.canPass, h, hl]

/-- The next position after an await for HIGH: an await for LOW, or the end of the command. -/
theorem passAwait_after_high {s : State} (h : s.upc.awaits = some .high) :
    (passAwait s).upc.awaits = some .low ∨ (passAwait s).run = false := by
  cases hu : s.upc with
  | bitHigh f k => refine .inl ?_; simp only [passAwait, hu]; split <;> rfl
  | stopHigh c => refine .inr ?_; simp only [passAwait, hu, complete_run]
  | _ => simp_all [Upc.awaits, passAwait]

/-- The next position after an await for LOW: an await for HIGH, the end of the command, or the end of a frame or of a byte,
which goes on in the same low phase. -/
theorem passAwait_after_low {s : State} (h : s.upc.awaits = some .low) :
    (passAwait s).upc.awaits = some .high ∨ (passAwait s).run = false ∨
      (∃ f, (passAwait s).upc = .bitLow f 7) ∨ (passAwait s).upc = .mackLow ∨ (∃ c, (passAwait s).upc = .stopLow c) := by
  cases hu : s.upc with
  | noRoutine => simp [hu, Upc.awaits] at h
  | dispatch => simp [hu, Upc.awaits] at h
  | bitLow f k => simp [passAwait, hu, Upc.awaits]
  | bitHigh f k => simp [hu, Upc.awaits] at h
  | ackLow f => simp [passAwait, hu, Upc.awaits]
  | ackHigh f => simp [hu, Upc.awaits] at h
  | ackEnd f =>
    simp only [passAwait, hu]
    split
    · rcases f with _ | _ | (_ | _) | _ <;> simp only [frameAcked]
      · simp
      · simp
      · simp
      · unfold beginPayloadRead; simp only; split <;> simp [Upc.awaits]
      · split <;> simp
    · rcases f with _ | _ | (_ | _) | _ <;> simp only [frameNacked, fail]
      · simp
      · simp
      · simp
      · simp
      · split <;> simp
  | rsLow r => simp [passAwait, hu, Upc.awaits]
  | rsHigh r => simp [hu, Upc.awaits] at h
  | rxHigh k => simp [hu, Upc.awaits] at h
  | rxLow k b => simp only [passAwait, hu, receivedBit]; split <;> simp [Upc.awaits]
  | mackLow => simp [passAwait, hu, Upc.awaits]
  | mackHigh => simp [hu, Upc.awaits] at h
  | mackEnd => simp only [passAwait, hu]; split <;> simp [Upc.awaits]
  | stopLow c => simp [passAwait, hu, Upc.awaits]
  | stopHigh c => simp [hu, Upc.awaits] at h

/-- A Sequencer step ends at an await whose predicate is false, or with its command ended (R10): the bound on the number of
awaits a step passes is never met. -/
theorem runRoutine_stops (s : State) : (runRoutine s).canPass = false := by
  by_cases h : s.canPass = true
  case neg => rw [runRoutine_blocked (by simpa using h)]; simpa using h
  obtain ⟨l, hl, hh⟩ := canPass_awaits h
  have hp : (passAwait s).phase = s.phase := (passAwait_kept s).phase
  cases l with
  | high =>
    have hph : s.phase = true := by simp [State.holds, State.isHigh] at hh; exact hh.1
    have h1 : (passAwait s).canPass = false := by
      rcases passAwait_after_high hl with h1 | h1
      · exact not_canPass_of_level h1 (by simp [State.holds, State.isLow, hp, hph])
      · exact canPass_of_not_running h1
    rw [runRoutine_once h h1]; exact h1
  | low =>
    have hph : s.phase = false := by simpa [State.holds, State.isLow] using hh
    have stop : ∀ t : State, t.phase = false → t.upc.awaits = some .high → t.canPass = false :=
      fun t ht hu => not_canPass_of_level hu (by simp [State.holds, State.isHigh, ht])
    by_cases h1 : (passAwait s).canPass = true
    case neg => rw [runRoutine_once h (by simpa using h1)]; simpa using h1
    have hp2 : (passAwait (passAwait s)).phase = false := ((passAwait_kept _).phase.trans hp).trans hph
    have h2 : (passAwait (passAwait s)).canPass = false := by
      rcases passAwait_after_low hl with hu | hu | ⟨f, hu⟩ | hu | ⟨c, hu⟩
      · rw [stop _ (hp.trans hph) hu] at h1; cases h1
      · rw [canPass_of_not_running hu] at h1; cases h1
      all_goals
        refine stop _ hp2 ?_
        generalize hq : passAwait s = q at hu
        simp [passAwait, hu, Upc.awaits]
    rw [runRoutine_twice h h1 h2]; exact h2

/-- A Sequencer step that passes something passes one or two awaits. -/
theorem runRoutine_cases (s : State) :
    runRoutine s = s ∨ runRoutine s = passAwait s ∨ runRoutine s = passAwait (passAwait s) := by
  by_cases h : s.canPass = true
  case neg => exact .inl (runRoutine_blocked (by simpa using h))
  by_cases h1 : (passAwait s).canPass = true
  case neg => exact .inr (.inl (runRoutine_once h (by simpa using h1)))
  by_cases h2 : (passAwait (passAwait s)).canPass = true
  case neg => exact .inr (.inr (runRoutine_twice h h1 (by simpa using h2)))
  exfalso
  obtain ⟨l, hl, hh⟩ := canPass_awaits h
  have hp : (passAwait s).phase = s.phase := (passAwait_kept s).phase
  have hp2 : (passAwait (passAwait s)).phase = s.phase := (passAwait_kept _).phase.trans hp
  cases l with
  | high =>
    have hph : s.phase = true := by simp [State.holds, State.isHigh] at hh; exact hh.1
    rcases passAwait_after_high hl with h3 | h3
    · rw [not_canPass_of_level h3 (by simp [State.holds, State.isLow, hp, hph])] at h1; cases h1
    · rw [canPass_of_not_running h3] at h1; cases h1
  | low =>
    have hph : s.phase = false := by simpa [State.holds, State.isLow] using hh
    have stop : ∀ t : State, t.phase = false → t.upc.awaits = some .high → t.canPass = false :=
      fun t ht hu => not_canPass_of_level hu (by simp [State.holds, State.isHigh, ht])
    rcases passAwait_after_low hl with hu | hu | ⟨f, hu⟩ | hu | ⟨c, hu⟩
    · rw [stop _ (hp.trans hph) hu] at h1; cases h1
    · rw [canPass_of_not_running hu] at h1; cases h1
    all_goals
      rw [stop _ (hp2.trans hph) ?_] at h2
      · cases h2
      · generalize hq : passAwait s = q at hu
        simp [passAwait, hu, Upc.awaits]

end Sys2Proof.Machine
end

