-- ==== Sys2Proof/Laws/Step.lean ====
section
/-! SUPPORT. What one step can do: one inversion lemma per agent and per command, for proofs to cite instead of unfolding. -/

namespace Sys2Proof.Machine

/-! The interleaving. -/

theorem step_of_nil {s : State} (h : s.agenda = []) : step s = blockStep s := by
  simp [step, nextMove, h, doMove]

theorem step_of_cons {s : State} {m : Move} {ms : List Move} (h : s.agenda = m :: ms) :
    step s = doMove { s with agenda := ms } m := by
  simp [step, nextMove, h]

/-- Every step is a move taken in the state without it on the agenda. -/
theorem step_cases (s : State) :
    (s.agenda = [] ∧ step s = blockStep s) ∨
      ∃ m ms, s.agenda = m :: ms ∧ step s = doMove { s with agenda := ms } m := by
  cases h : s.agenda with
  | nil => exact .inl ⟨rfl, step_of_nil h⟩
  | cons m ms => exact .inr ⟨m, ms, rfl, step_of_cons h⟩

/-! A run of steps. -/

theorem runsTo_zero {s t : State} : runsTo 0 s t ↔ s = t := Iff.rfl

theorem runsTo_succ {k : Nat} {s t : State} : runsTo (k + 1) s t ↔ ∃ u, step s = .next u ∧ runsTo k u t := Iff.rfl

theorem run_next {M : Host.Core} {k : Nat} {s u : M.State} (h : M.step s = .next u) :
    M.run (k + 1) s = M.run k u := by simp only [Host.Core.run, h]

theorem run_fault {M : Host.Core} {k : Nat} {s : M.State} {r : M.Fault} (h : M.step s = .fault r) :
    M.run (k + 1) s = .fault r := by simp only [Host.Core.run, h]

theorem run_refused {M : Host.Core} {k : Nat} {s : M.State} {r : M.Refusal} (h : M.step s = .refused r) :
    M.run (k + 1) s = .refused r := by simp only [Host.Core.run, h]

/-- `runsTo` is the host's own run. -/
theorem runsTo_iff_run (k : Nat) (s t : State) :
    runsTo k s t ↔ Host.Core.run Sys2Proof.core k s = Host.Outcome.next t := by
  induction k generalizing s with
  | zero => exact ⟨fun h => congrArg Host.Outcome.next h, fun h => Host.Outcome.next.inj h⟩
  | succ k ih =>
    constructor
    · rintro ⟨u, hu, hr⟩
      exact (run_next (M := Sys2Proof.core) hu).trans ((ih u).1 hr)
    · intro h
      cases hst : step s with
      | next u => exact ⟨u, hst, (ih u).2 ((run_next (M := Sys2Proof.core) hst).symm.trans h)⟩
      | fault r => cases (run_fault (M := Sys2Proof.core) (k := k) hst).symm.trans h
      | refused r => cases (run_refused (M := Sys2Proof.core) (k := k) hst).symm.trans h

theorem runsTo_add {j k : Nat} {s u t : State} (h : runsTo j s u) (h' : runsTo k u t) : runsTo (j + k) s t := by
  induction j generalizing s with
  | zero => rw [runsTo_zero] at h; subst h; simpa using h'
  | succ j ih =>
    obtain ⟨v, hv, hr⟩ := runsTo_succ.1 h
    rw [Nat.succ_add]
    exact runsTo_succ.2 ⟨v, hv, ih hr⟩

/-! The tick event (R104). -/

/-- The Tick agent writes the phase, the SCL output, the held-tick count and the tick counter, and nothing else. -/
theorem tickExpiry_eq (s : State) :
    tickExpiry s = { s with
      phase := (tickExpiry s).phase, sclO := (tickExpiry s).sclO
      stretchCnt := (tickExpiry s).stretchCnt, tcnt := 0#32 } := by
  unfold tickExpiry tick; split <;> rfl

/-- A held tick (R104). -/
theorem tickExpiry_held {s : State} (hp : s.phase = true) (hs : s.sclIn = false) :
    tickExpiry s = { s with stretchCnt := saturatingSucc s.stretchCnt, tcnt := 0#32 } := by
  have h : (s.phase && !({ s with tcnt := 0#32 } : State).sclIn) = true := by
    rw [show ({ s with tcnt := 0#32 } : State).sclIn = false from hs, hp]; rfl
  exact if_pos h

/-- A tick that inverts (R104). -/
theorem tickExpiry_inverts {s : State} (h : s.phase = false ∨ s.sclIn = true) :
    tickExpiry s = { s with
      phase := !s.phase, sclO := if s.scla then !s.sclO else s.sclO, stretchCnt := 0#16, tcnt := 0#32 } := by
  have hn : ¬ (s.phase && !({ s with tcnt := 0#32 } : State).sclIn) = true := by
    rw [show ({ s with tcnt := 0#32 } : State).sclIn = s.sclIn from rfl]
    rcases h with h | h <;> simp [h]
  exact if_neg hn

/-! The Sequencer (R22). -/

theorem sequencerStep_dispatch {s : State} (h : s.upc = .dispatch) : sequencerStep s = dispatchStep s := by
  simp [sequencerStep, h, Upc.awaits]

theorem sequencerStep_pass {s : State} (h : s.canPass = true) : sequencerStep s = .next (runRoutine s) := by
  obtain ⟨l, hl, -⟩ := canPass_awaits h
  simp [sequencerStep, hl, h]

theorem sequencerStep_timeout {s : State} {l : Level} (hl : s.upc.awaits = some l) (h : s.canPass = false) :
    sequencerStep s = .next (forcedRelease s) := by
  simp [sequencerStep, hl, h]

/-- What a Sequencer step can be: the dispatch of an illegal or of a legal word, one or two awaits passed, or the timeout. -/
theorem sequencerStep_cases {s t : State} (h : sequencerStep s = .next t) :
    (s.upc = .dispatch ∧ (∃ e, decode s.cmd = .error e) ∧ t = complete .illegalCommand (clearCounters s)) ∨
    (s.upc = .dispatch ∧ ∃ i, decode s.cmd = .ok i ∧ exec i (clearCounters s) = .next t) ∨
    (s.canPass = true ∧ (t = passAwait s ∨ ((passAwait s).canPass = true ∧ t = passAwait (passAwait s)))) ∨
    (s.canPass = false ∧ (∃ l, s.upc.awaits = some l) ∧ t = forcedRelease s) := by
  cases hl : s.upc.awaits with
  | none =>
    by_cases hd : s.upc = .dispatch
    · rw [sequencerStep_dispatch hd, dispatchStep] at h
      cases hc : decode s.cmd with
      | error e =>
        rw [hc] at h
        exact .inl ⟨hd, ⟨e, rfl⟩, (Host.Outcome.next.inj h).symm⟩
      | ok i =>
        rw [hc] at h
        exact .inr (.inl ⟨hd, i, rfl, h⟩)
    · simp [sequencerStep, hl, hd] at h
  | some l =>
    by_cases hp : s.canPass = true
    · rw [sequencerStep_pass hp] at h
      have ht := Host.Outcome.next.inj h
      refine .inr (.inr (.inl ⟨hp, ?_⟩))
      by_cases h1 : (passAwait s).canPass = true
      · by_cases h2 : (passAwait (passAwait s)).canPass = true
        · have hstop := runRoutine_stops s
          rcases runRoutine_cases s with hr | hr | hr <;> rw [hr] at hstop <;> simp_all
        · exact .inr ⟨h1, by rw [← ht, runRoutine_twice hp h1 (by simpa using h2)]⟩
      · exact .inl (by rw [← ht, runRoutine_once hp (by simpa using h1)])
    · rw [sequencerStep_timeout hl (by simpa using hp)] at h
      exact .inr (.inr (.inr ⟨by simpa using hp, ⟨l, rfl⟩, (Host.Outcome.next.inj h).symm⟩))

/-- What the block's own step can be (R22, R23, R29, R237, R250). -/
theorem blockStep_cases {s t : State} (h : blockStep s = .next t) :
    (s.rstN = false ∧ t = s) ∨
    (s.rstN = true ∧ s.sequencerEnabled = true ∧ sequencerStep s = .next t) ∨
    (s.rstN = true ∧ s.sequencerEnabled = false ∧ s.enabled = true ∧ t = tickExpiry s) ∨
    (s.rstN = true ∧ s.sequencerEnabled = false ∧ s.enabled = false ∧ t = s) := by
  unfold blockStep at h
  cases hr : s.rstN <;> cases hq : s.sequencerEnabled <;> cases he : s.enabled <;> simp_all

theorem blockStep_sequencer {s : State} (hr : s.rstN = true) (h : s.sequencerEnabled = true) :
    blockStep s = sequencerStep s := by simp [blockStep, hr, h]

theorem blockStep_tick {s : State} (hr : s.rstN = true) (h : s.sequencerEnabled = false) (he : s.enabled = true) :
    blockStep s = .next (tickExpiry s) := by simp [blockStep, hr, h, he]

/-- What a cycle of `clk` can be (R103). -/
theorem clkStep_cases (s : State) :
    clkStep s = s ∨
    (s.rstN = true ∧ s.enabled = true ∧ s.tcnt.toNat + 1 < s.div.toNat ∧ clkStep s = { s with tcnt := s.tcnt + 1#32 }) ∨
    (s.rstN = true ∧ s.enabled = true ∧ s.sequencerEnabled = false ∧ clkStep s = tickExpiry s) := by
  unfold clkStep
  cases hr : s.rstN
  · exact .inl (by simp)
  cases he : s.enabled
  · exact .inl (by simp)
  simp only [Bool.not_true, Bool.or_self, Bool.false_eq_true, if_false]
  split
  · rename_i h; exact .inr (.inl ⟨trivial, trivial, h, rfl⟩)
  · cases hq : s.sequencerEnabled
    · exact .inr (.inr ⟨trivial, trivial, rfl, rfl⟩)
    · exact .inl rfl

/-! When a Sequencer step is enabled (R22). -/

theorem sequencerEnabled_of_canPass {s : State} (h : s.canPass = true) : s.sequencerEnabled = true := by
  obtain ⟨l, hl, hh⟩ := canPass_awaits h
  have hr : s.run = true := by unfold State.canPass at h; simp_all
  simp [State.sequencerEnabled, State.blocked, hr, hl, hh]

theorem sequencerEnabled_of_dispatch {s : State} (hr : s.run = true) (h : s.upc = .dispatch) :
    s.sequencerEnabled = true := by
  simp [State.sequencerEnabled, State.blocked, hr, h, Upc.awaits]

theorem not_sequencerEnabled_of_idle {s : State} (h : s.run = false) : s.sequencerEnabled = false := by
  simp [State.sequencerEnabled, h]

/-- A blocked routine before its bound has no Sequencer step. -/
theorem not_sequencerEnabled_of_blocked {s : State} {l : Level} (hl : s.upc.awaits = some l)
    (hh : s.holds l = false) (ht : s.timedOut = false) : s.sequencerEnabled = false := by
  cases hr : s.run <;> simp [State.sequencerEnabled, State.blocked, hr, hl, hh, ht]

/-! The commands: each dispatch part, once (R176–R181). -/

/-- Every command answers a next state: the spec's errors are results (R230). -/
theorem exec_next (i : Instr) (s : State) : ∃ t, exec i s = .next t := by
  cases i <;> exact ⟨_, rfl⟩

/-- What INIT can do. -/
theorem execInit_cases {f : BitVec 24} {s t : State} (h : execInit f s = .next t) :
    (s.state ≠ .idle ∧ t = complete .busBusy s) ∨
    (s.state = .idle ∧ ∃ d, divisor s.params f = some d ∧
      t = complete .ok { disableClock (driveSda .hiz s) with div := BitVec.ofNat 32 d, configured := true }) ∨
    (s.state = .idle ∧ divisor s.params f = none ∧
      t = complete .unsupportedFrequency { disableClock (driveSda .hiz s) with div := 0#32, configured := false }) := by
  have ht := (Host.Outcome.next.inj h).symm
  by_cases hi : s.state = .idle
  · simp only [hi, ne_eq, not_true_eq_false, if_false] at ht
    cases hd : divisor s.params f with
    | none => exact .inr (.inr ⟨hi, rfl, by simpa [configure, hd, fail, disableClock, driveSda] using ht⟩)
    | some d => exact .inr (.inl ⟨hi, d, rfl, by simpa [configure, hd, disableClock, driveSda] using ht⟩)
  · exact .inl ⟨hi, by simpa [hi, fail] using ht⟩

/-- What BEGIN can do. -/
theorem execBegin_cases {sa : BitVec 7} {ra : Byte} {m : Mode} {s t : State} (h : execBegin sa ra m s = .next t) :
    (s.configured = false ∧ t = complete .notConfigured s) ∨
    (s.configured = true ∧ s.state ≠ .idle ∧ t = complete .busBusy s) ∨
    (s.configured = true ∧ s.state = .idle ∧
      t = { startCondition { s with sa := sa, ra := ra, mode := m } with upc := .bitLow .beginAddr 7 }) := by
  have ht := (Host.Outcome.next.inj h).symm
  cases hc : s.configured
  · exact .inl ⟨rfl, by simpa [hc, fail] using ht⟩
  · by_cases hi : s.state = .idle
    · refine .inr (.inr ⟨rfl, hi, ?_⟩)
      rw [runRoutine_blocked (not_canPass_of_level (l := .low) rfl rfl)] at ht
      simpa [hc, hi] using ht
    · exact .inr (.inl ⟨rfl, hi, by simpa [hc, hi, fail] using ht⟩)

/-- What RSTART can do. -/
theorem execRstart_cases {sa : BitVec 7} {m : Mode} {s t : State} (h : execRstart sa m s = .next t) :
    (s.state = .idle ∧ t = complete .noTransaction s) ∨
    (s.state ≠ .idle ∧ t = runRoutine (restartCondition .rstart { s with sa := sa, mode := m })) := by
  have ht := (Host.Outcome.next.inj h).symm
  by_cases hi : s.state = .idle
  · exact .inl ⟨hi, by simpa [hi, fail] using ht⟩
  · exact .inr ⟨hi, by simpa [hi] using ht⟩

/-- What WRITE can do. -/
theorem execWrite_cases {n : BitVec 9} {s t : State} (h : execWrite n s = .next t) :
    (s.state = .idle ∧ t = complete .noTransaction s) ∨
    (s.state ≠ .idle ∧ n = 0#9 ∧ t = complete .ok { s with state := .payloadPhase }) ∨
    (s.state ≠ .idle ∧ n ≠ 0#9 ∧ t = runRoutine (loadPayload 0 { s with state := .payloadPhase })) := by
  have ht := (Host.Outcome.next.inj h).symm
  by_cases hi : s.state = .idle
  · exact .inl ⟨hi, by simpa [hi, fail] using ht⟩
  · by_cases hn : n = 0#9
    · exact .inr (.inl ⟨hi, hn, by simpa [hi, hn] using ht⟩)
    · exact .inr (.inr ⟨hi, hn, by simpa [hi, hn] using ht⟩)

/-- What READ can do. -/
theorem execRead_cases {n cap : BitVec 9} {s t : State} (h : execRead n cap s = .next t) :
    (s.state = .idle ∧ t = complete .noTransaction s) ∨
    (s.state ≠ .idle ∧ cap < n ∧ t = complete .bufferTooSmall s) ∨
    (s.state ≠ .idle ∧ ¬ cap < n ∧ t = runRoutine (restartCondition .read { s with mode := .read })) := by
  have ht := (Host.Outcome.next.inj h).symm
  by_cases hi : s.state = .idle
  · exact .inl ⟨hi, by simpa [hi, fail] using ht⟩
  · by_cases hn : cap < n
    · exact .inr (.inl ⟨hi, hn, by simpa [hi, hn, fail] using ht⟩)
    · exact .inr (.inr ⟨hi, hn, by simpa [hi, hn] using ht⟩)

/-- What END can do. -/
theorem execEnd_cases {s t : State} (h : execEnd s = .next t) :
    (s.state = .idle ∧ t = complete .ok s) ∨ (s.state ≠ .idle ∧ t = runRoutine (stopCondition .ok s)) := by
  have ht := (Host.Outcome.next.inj h).symm
  by_cases hi : s.state = .idle
  · exact .inl ⟨hi, by simpa [hi] using ht⟩
  · exact .inr ⟨hi, by simpa [hi] using ht⟩

/-- What no command's dispatch part changes, whatever it ends in. -/
theorem exec_keeps {i : Instr} {s t : State} (h : exec i s = .next t) :
    t.params = s.params ∧ t.tolim = s.tolim ∧ t.cmd = s.cmd ∧ t.ovr = s.ovr ∧ t.txbuf = s.txbuf ∧
      t.eSdaLow = s.eSdaLow ∧ t.eSclLow = s.eSclLow ∧ t.rstN = s.rstN ∧ t.hrdata = s.hrdata ∧ t.draw = s.draw ∧
      t.agenda = s.agenda := by
  have kept : ∀ {a : State}, KeptByRoutine a t → a.params = s.params → a.tolim = s.tolim → a.cmd = s.cmd →
      a.ovr = s.ovr → a.txbuf = s.txbuf → a.eSdaLow = s.eSdaLow → a.eSclLow = s.eSclLow → a.rstN = s.rstN →
      a.hrdata = s.hrdata → a.draw = s.draw → a.agenda = s.agenda → _ := fun k h1 h2 h3 h4 h5 h6 h7 h8 h9 h10 h11 =>
    And.intro (k.params.trans h1) <| And.intro (k.tolim.trans h2) <| And.intro (k.cmd.trans h3) <|
      And.intro (k.ovr.trans h4) <| And.intro (k.txbuf.trans h5) <| And.intro (k.eSdaLow.trans h6) <|
      And.intro (k.eSclLow.trans h7) <| And.intro (k.rstN.trans h8) <| And.intro (k.hrdata.trans h9) <|
      And.intro (k.draw.trans h10) (k.agenda.trans h11)
  cases i with
  | init f =>
    rcases execInit_cases h with ⟨-, rfl⟩ | ⟨-, d, -, rfl⟩ | ⟨-, -, rfl⟩ <;> simp
  | beginTx sa ra m =>
    rcases execBegin_cases h with ⟨-, rfl⟩ | ⟨-, -, rfl⟩ | ⟨-, -, rfl⟩ <;> simp
  | rstart sa m =>
    rcases execRstart_cases h with ⟨-, rfl⟩ | ⟨-, rfl⟩
    · simp
    · exact kept (runRoutine_kept _) rfl rfl rfl rfl rfl rfl rfl rfl rfl rfl rfl
  | write n =>
    rcases execWrite_cases h with ⟨-, rfl⟩ | ⟨-, -, rfl⟩ | ⟨-, -, rfl⟩
    · simp
    · simp
    · exact kept (runRoutine_kept _) rfl rfl rfl rfl rfl rfl rfl rfl rfl rfl rfl
  | read n cap =>
    rcases execRead_cases h with ⟨-, rfl⟩ | ⟨-, -, rfl⟩ | ⟨-, -, rfl⟩
    · simp
    · simp
    · exact kept (runRoutine_kept _) rfl rfl rfl rfl rfl rfl rfl rfl rfl rfl rfl
  | endTx =>
    rcases execEnd_cases h with ⟨-, rfl⟩ | ⟨-, rfl⟩
    · simp
    · exact kept (runRoutine_kept _) rfl rfl rfl rfl rfl rfl rfl rfl rfl rfl rfl

end Sys2Proof.Machine
end

