-- ==== Sys2Proof/Laws/PerInstr.lean ====
section
/-! SUPPORT. The facts said of every command, one lemma per constructor. -/

namespace Sys2Proof.Laws.TableRow

/-- The encoding of a command fits its row of R82's table. -/
def Statement (i : Instr) : Prop := encode i &&& (Instr.row i).mask = (Instr.row i).word

theorem init (freq : BitVec 24) : Statement (.init freq) := by
  simp only [Statement, encode, Instr.row]
  ext j hj
  interval_cases j <;> simp [fieldAt]

theorem beginTx (sa : BitVec 7) (ra : Byte) (mode : Mode) : Statement (.beginTx sa ra mode) := by
  simp only [Statement, encode, Instr.row]
  ext j hj
  interval_cases j <;> simp [fieldAt]

theorem rstart (sa : BitVec 7) (mode : Mode) : Statement (.rstart sa mode) := by
  simp only [Statement, encode, Instr.row]
  ext j hj
  interval_cases j <;> simp [fieldAt]

theorem write (count : BitVec 9) : Statement (.write count) := by
  simp only [Statement, encode, Instr.row]
  ext j hj
  interval_cases j <;> simp [fieldAt]

theorem read (count cap : BitVec 9) : Statement (.read count cap) := by
  simp only [Statement, encode, Instr.row]
  ext j hj
  interval_cases j <;> simp [fieldAt]

theorem endTx : Statement .endTx := by
  simp only [Statement, encode, Instr.row]; decide

end Sys2Proof.Laws.TableRow
end

