-- ==== Sys2Proof/Tests/Slice0.lean ====
section
/-! SUPPORT. The model's own tests: ill-formed commands refused, words written out from the spec's encodings and vectors
decoded, one-step tests with results from spec/95_test_vectors.md, and a witness for the hypotheses of each statement. -/

open Sys2Proof Sys2Proof.Machine Sys2Proof.Claims

namespace Sys2Proof.Tests

/-! Well-formedness: each condition of R82 with a term that breaks it. -/

theorem test_wf_write_257 : Instr.wf (.write 257#9) = false := by decide
theorem test_wf_read_count_0 : Instr.wf (.read 0#9 3#9) = false := by decide
theorem test_wf_read_count_257 : Instr.wf (.read 257#9 256#9) = false := by decide
theorem test_wf_read_cap_257 : Instr.wf (.read 1#9 257#9) = false := by decide
theorem test_wf_limits : Instr.wf (.write 256#9) ∧ Instr.wf (.write 0#9) ∧ Instr.wf (.read 256#9 256#9) ∧
    Instr.wf (.read 1#9 0#9) := by decide

/-! Decoding: words written out field by field from R80's patterns (reserved | fields | OP). -/

/-- INIT 100000: 0000, FREQ, 0001. -/
theorem test_decode_init : decode 0b0000_000000011000011010100000_0001#32 = .ok (.init 100000#24) := by decide
/-- BEGIN 0x50, 0x10, W: 12 zeros, RA, MODE, SA, 0010. -/
theorem test_decode_begin :
    decode 0b000000000000_00010000_0_1010000_0010#32 = .ok (.beginTx 0x50#7 0x10#8 .write) := by decide
/-- RSTART 0x50, R: 20 zeros, MODE, SA, 0011. -/
theorem test_decode_rstart : decode 0b00000000000000000000_1_1010000_0011#32 = .ok (.rstart 0x50#7 .read) := by decide
/-- WRITE 256: 19 zeros, COUNT, 0100. -/
theorem test_decode_write : decode 0b0000000000000000000_100000000_0100#32 = .ok (.write 256#9) := by decide
/-- READ 5, 3: 10 zeros, CAP, COUNT, 0101. -/
theorem test_decode_read : decode 0b0000000000_000000011_000000101_0101#32 = .ok (.read 5#9 3#9) := by decide
/-- END: 28 zeros, 0110. -/
theorem test_decode_end : decode 0b0000000000000000000000000000_0110#32 = .ok .endTx := by decide
/-- EC2, EC4, EC5, EC7, EC8, EC13, EC14 of spec/95: fields at their limits. -/
theorem test_decode_limits :
    decode 0x0FFFFFF1#32 = .ok (.init 0xFFFFFF#24) ∧ decode 0x000FFFF2#32 = .ok (.beginTx 0x7F#7 0xFF#8 .read) ∧
    decode 0x00000002#32 = .ok (.beginTx 0#7 0#8 .write) ∧ decode 0x000007F3#32 = .ok (.rstart 0x7F#7 .write) ∧
    decode 0x00000004#32 = .ok (.write 0#9) ∧ decode 0x00000015#32 = .ok (.read 1#9 0#9) ∧
    decode 0x00201005#32 = .ok (.read 256#9 256#9) := by decide
/-- EC16–EC22 of spec/95: no illegal word decodes. -/
theorem test_decode_illegal : [0x00000000#32, 0x00000007#32, 0x0000000F#32, 0x10000001#32, 0x00100002#32, 0x00001003#32,
    0x00001014#32].all (fun w => (decode w).toOption.isNone) = true := by decide
/-- EC23–EC28. -/
theorem test_decode_illegal_more : [0x00001FF4#32, 0x00000005#32, 0x00202015#32, 0x00401015#32, 0x00000016#32,
    0x80000006#32].all (fun w => (decode w).toOption.isNone) = true := by decide
/-- EC3, EC11: the encoder writes the spec's words. -/
theorem test_encode : encode (.beginTx 0x50#7 0x10#8 .write) = 0x00010502#32 ∧ encode (.read 3#9 3#9) = 0x00006035#32 ∧
    encode (.rstart 0x50#7 .read) = 0x00000D03#32 ∧ encode (.init 400000#24) = 0x0061A801#32 := by decide
theorem test_decode_table_word : decodeTableWord 32 0x00010502 = some (.beginTx 0x50#7 0x10#8 .write) := by decide

/-! Small states: spec/95's parameters on a released bus. -/

/-- Right after reset, with spec/95's parameter set and no pull from the environment. -/
def fresh : State :=
  { State.reset with params := ⟨16000000, 2, 65536, 0⟩, eSdaLow := false, eSclLow := false }
/-- After INIT 100000. -/
def ready : State := { fresh with configured := true, div := 80#32 }
/-- In a transaction after BEGIN 0x50, 0x10, W, at phase `ph`. -/
def opened (ph : Bool) : State :=
  { ready with
    enabled := true, scla := true, phase := ph, sclO := ph, state := .writeRegisterPhase, sa := 0x50#7, ra := 0x10#8
    ackr := true, txbuf := [(0, 0x48#8)] }
/-- A command word accepted. -/
def running (w : Word) (s : State) : State := { s with cmd := w, run := true, upc := .dispatch }
/-- A command running in a transaction at phase `ph`, its routine at `u`. -/
def inside (ph : Bool) (w : Word) (u : Upc) : State := { opened ph with cmd := w, run := true, upc := u }
/-- A move listed. -/
def told (m : Move) (s : State) : State := { s with agenda := [m] }
/-- The step answers a next state with the property `p`. -/
def nextHas (s : State) (p : State → Bool) : Bool :=
  match step s with
  | .next t    => p t
  | .fault _   => false
  | .refused _ => false

/-! One step each, expected values from spec/95. -/

/-- DV1: divisor 80, RESULT 0x01000000; STATUS 0x000000D4 (DV16). -/
theorem test_init_100k : nextHas (running 0x00186A01#32 fresh)
    (fun t => t.div = 80#32 && t.result = 0x01000000#32 && t.statusWord = 0x000000D4#32) = true := by decide
/-- DV7: UnsupportedFrequency, DIV 0, unconfigured. -/
theorem test_init_8M : nextHas (running 0x07A12001#32 ready)
    (fun t => t.div = 0#32 && t.result = 0x01000006#32 && !t.configured) = true := by decide
/-- HZ1 without the overrun: STATUS 0x000021BF right after BEGIN's dispatch. -/
theorem test_begin : nextHas (running 0x00010502#32 ready)
    (fun t => t.statusWord = 0x000021BF#32 && t.xactWord = 0x00001050#32) = true := by decide
/-- BG4: NotConfigured. -/
theorem test_begin_unconfigured : nextHas (running 0x00010502#32 fresh)
    (fun t => t.result = 0x02000007#32 && t.statusWord = 0x000000D0#32) = true := by decide
/-- RSTART at phase 0 releases SDA and stores its operands; XACT 0x000010D0 (RS1). -/
theorem test_rstart : nextHas (running 0x00000D03#32 (opened false))
    (fun t => t.state = .repeatedStart && t.upc = .rsHigh .rstart && t.xactWord = 0x000010D0#32) = true := by decide
/-- RS4: NoTransaction. -/
theorem test_rstart_idle : nextHas (running 0x00000503#32 ready) (fun t => t.result = 0x03000008#32) = true := by decide
/-- W1: 0x48's first bit, a 0, is driven at once. -/
theorem test_write : nextHas (running 0x00000014#32 (opened false))
    (fun t => t.sdaDrv = .low && t.txb = 0x48#8 && t.att = 1#4 && t.state = .payloadPhase) = true := by decide
/-- HZ7: WRITE 0 at phase 1 completes with STATUS 0x000016FE. -/
theorem test_write_0 : nextHas (running 0x00000004#32 (opened true))
    (fun t => t.statusWord = 0x000016FE#32 && t.result = 0x04000000#32) = true := by decide
/-- READ at phase 1 waits for LOW; its mode is READ at once. -/
theorem test_read : nextHas (running 0x00006035#32 (opened true))
    (fun t => t.upc = .rsLow .read && t.mode = .read && t.state = .repeatedStart) = true := by decide
/-- RD3: BufferTooSmall. -/
theorem test_read_small : nextHas (running 0x00006055#32 (opened false))
    (fun t => t.result = 0x05000004#32 && t.statusWord = 0x0000136E#32) = true := by decide
/-- EN1: SDA is pulled low at once at phase 0. -/
theorem test_end : nextHas (running 0x00000006#32 (opened false))
    (fun t => t.sdaDrv = .low && t.upc = .stopHigh .ok && t.state = .stopCondition) = true := by decide
/-- EN3: a no-op at Idle. -/
theorem test_end_idle : nextHas (running 0x00000006#32 ready)
    (fun t => t.result = 0x06000000#32 && t.statusWord = 0x000000D4#32) = true := by decide
/-- TK6: a held tick saturates. -/
theorem test_tick_held : nextHas { opened true with eSclLow := true, stretchCnt := 0xFFFF#16 }
    (fun t => t.phase && t.sclO && t.stretchCnt = 0xFFFF#16) = true := by decide
/-- TK3: at phase 0 the tick inverts whatever the environment pulls. -/
theorem test_tick_rises : nextHas { opened false with eSclLow := true }
    (fun t => t.phase && t.sclO && t.stretchCnt = 0#16) = true := by decide
/-- ST8: TOLIM written 0x00012345 reads 0x00002345. -/
theorem test_tolim : nextHas (told (.hostWrite 0x010#12 0x00012345#32) fresh) (fun t => t.tolim = 0x2345#16) = true := by
  decide
/-- HZ4: TXBUF[0] written 0x12345648 holds 0x48. -/
theorem test_txbuf : nextHas (told (.hostWrite 0x400#12 0x12345648#32) fresh) (fun t => t.readTx 0 = 0x48#8) = true := by
  decide

/-! Witnesses: the hypotheses of each statement, met together by concrete states, at the limits of each clause. -/

/-- The dispatch premise, for every word, on a state of each kind. -/
theorem dispatching_ready (w : Word) : Dispatching (running w ready) (running w ready) := ⟨rfl, rfl, rfl, rfl⟩
theorem dispatching_fresh (w : Word) : Dispatching (running w fresh) (running w fresh) := ⟨rfl, rfl, rfl, rfl⟩
theorem dispatching_opened (w : Word) : Dispatching (running w (opened false)) (running w (opened false)) :=
  ⟨rfl, rfl, rfl, rfl⟩

theorem witness_ResetInput :
    (∃ s s' : State, nextMove s = (.rst false, s')) ∧
    (∃ s s' : State, nextMove s = (.rst true, s')) ∧
    (∃ s s' : State, s.rstN = false ∧ nextMove s = (.block, s')) ∧
    (∃ s s' : State, s.rstN = false ∧ nextMove s = (.clk, s')) ∧
    (∃ (s s' : State) (off : BitVec 12) (v : Word), s.rstN = false ∧ nextMove s = (.hostWrite off v, s')) ∧
    (∃ (s s' : State) (off : BitVec 12), s.rstN = false ∧ nextMove s = (.hostRead off, s')) ∧
    (∃ s s' : State, s.rstN = false ∧ nextMove s = (.poll, s')) :=
  ⟨⟨told (.rst false) (opened true), _, rfl⟩, ⟨told (.rst true) { fresh with rstN := false }, _, rfl⟩,
    ⟨{ fresh with rstN := false }, _, rfl, rfl⟩,
    ⟨told .clk { fresh with rstN := false }, _, rfl, rfl⟩,
    ⟨told (.hostWrite 0#12 6#32) { fresh with rstN := false }, _, _, _, rfl, rfl⟩,
    ⟨told (.hostRead 4#12) { fresh with rstN := false }, _, _, rfl, rfl⟩,
    ⟨told .poll { fresh with rstN := false }, _, rfl, rfl⟩⟩

theorem witness_DecodeOfEncode : ∀ i ∈ [Instr.init 0#24, .init 0xFFFFFF#24, .beginTx 0x7F#7 0xFF#8 .read, .beginTx 0#7 0#8 .write,
    .rstart 0x7F#7 .read, .write 0#9, .write 256#9, .read 1#9 0#9, .read 256#9 256#9, .endTx], i.wf = true := by decide

theorem witness_EncodeOfDecode : decode 0x00201005#32 = .ok (.read 256#9 256#9) := by decide

theorem witness_TableRowsSelect :
    (∃ (w : Word) (i j : Instr), w &&& i.row.mask = i.row.word ∧ w &&& j.row.mask = j.row.word) ∧
    (∀ w ∈ [0x00001004#32, 0x00201005#32, 0x00000015#32, 0x00000006#32], ∃ i, decode w = .ok i) ∧
    (∃ (w : Word) (j : Instr), w &&& j.row.mask = j.row.word ∧ j.row.word = 4#32 ∧ w.toNat / 16 % 512 ≤ 256) ∧
    (∃ (w : Word) (j : Instr), w &&& j.row.mask = j.row.word ∧ j.row.word = 5#32 ∧ 1 ≤ w.toNat / 16 % 512 ∧
      w.toNat / 16 % 512 ≤ 256 ∧ w.toNat / 2 ^ 13 % 512 ≤ 256) := by
  refine ⟨⟨6#32, .endTx, .endTx, by decide⟩, ?_, ⟨0x00001004#32, .write 0#9, by decide⟩,
    ⟨0x00201005#32, .read 0#9 0#9, by decide⟩⟩
  intro w hw
  simp only [List.mem_cons, List.not_mem_nil, or_false] at hw
  rcases hw with rfl | rfl | rfl | rfl
  exacts [⟨.write 256#9, by decide⟩, ⟨.read 256#9 256#9, by decide⟩, ⟨.read 1#9 0#9, by decide⟩, ⟨.endTx, by decide⟩]

/-- Every clause of the illegal words, at its limits: OP 0, 7 and 15, the lowest and the highest reserved bit of each
command, and each count just outside its range. -/
def illegalEdges : List Word :=
  [0x00000000#32, 0x00000007#32, 0x0000000F#32] ++ [0x10000001#32, 0x80000001#32, 0x00100002#32, 0x80000002#32] ++
  [0x00001003#32, 0x80000003#32, 0x00002004#32, 0x80000004#32] ++ [0x00001014#32, 0x00001FF4#32] ++
  [0x00400015#32, 0x80000015#32, 0x00000005#32, 0x00001015#32] ++
  [0x00202015#32, 0x003FE015#32, 0x00000016#32, 0x80000006#32]

theorem witness_IllegalCommandCompletes : ∀ w ∈ illegalEdges,
    Dispatching (running w ready) (running w ready) ∧ IllegalWord (running w ready).cmd := by
  intro w hw
  refine ⟨dispatching_ready w, ?_⟩
  simp only [illegalEdges, List.mem_append, List.mem_cons, List.not_mem_nil, or_false] at hw
  obtain ((((h | h) | h) | h) | h) | h := hw
  · rcases h with rfl | rfl | rfl <;> (unfold IllegalWord; decide)
  · rcases h with rfl | rfl | rfl | rfl <;> (unfold IllegalWord; decide)
  · rcases h with rfl | rfl | rfl | rfl <;> (unfold IllegalWord; decide)
  · rcases h with rfl | rfl <;> (unfold IllegalWord; decide)
  · rcases h with rfl | rfl | rfl | rfl <;> (unfold IllegalWord; decide)
  · rcases h with rfl | rfl | rfl | rfl <;> (unfold IllegalWord; decide)

theorem witness_AssemblerWords : assemble (.read 256 256) = some 0x00201005#32 ∧ assemble (.init 0xFFFFFF) = some 0x0FFFFFF1#32 := by
  decide

theorem witness_PseudoExpansions :
    assemble (.write 256) = some 0x00001004#32 ∧ (127 ≤ 127 ∧ 255 ≤ 255 ∧ (List.replicate 256 0x48#8).length ≤ 256) ∧
      (127 ≤ 127 ∧ 255 ≤ 255 ∧ 1 ≤ 256 ∧ 256 ≤ 256) := by
  refine ⟨by decide, ⟨le_refl _, le_refl _, ?_⟩, by omega⟩
  rw [List.length_replicate]

/-- A legal word of each command, dispatched. -/
theorem witness_StepRunsDecoded : ∀ w ∈ [0x0FFFFFF1#32, 0x000FFFF2#32, 0x00000D03#32, 0x00001004#32, 0x00201005#32, 6#32],
    Dispatching (running w ready) (running w ready) ∧ ∃ i, decode (running w ready).cmd = .ok i := by
  intro w hw
  refine ⟨dispatching_ready w, ?_⟩
  simp only [List.mem_cons, List.not_mem_nil, or_false] at hw
  rcases hw with rfl | rfl | rfl | rfl | rfl | rfl
  exacts [⟨.init 0xFFFFFF#24, by decide⟩, ⟨.beginTx 0x7F#7 0xFF#8 .read, by decide⟩, ⟨.rstart 0x50#7 .read, by decide⟩,
    ⟨.write 256#9, by decide⟩, ⟨.read 256#9 256#9, by decide⟩, ⟨.endTx, by decide⟩]

theorem witness_FetchWordRunsNext : 0x000FFFF2 < 2 ^ 32 ∧
    decode (BitVec.ofNat 32 0x000FFFF2) = .ok (.beginTx 0x7F#7 0xFF#8 .read) := by decide

theorem witness_CommandAcceptance :
    (∃ s s' v, s.rstN = true ∧ nextMove s = (.hostWrite 0x000#12 v, s') ∧ s.run = true) ∧
    (∃ s s' v, s.rstN = true ∧ nextMove s = (.hostWrite 0x000#12 v, s') ∧ s.run = false) :=
  ⟨⟨told (.hostWrite 0#12 6#32) (running 6#32 ready), _, _, rfl, rfl, rfl⟩,
    ⟨told (.hostWrite 0#12 6#32) ready, _, _, rfl, rfl, rfl⟩⟩

/-- The first and the last byte offset of every range of the map. -/
def mapEdges : List (BitVec 12) :=
  [0x000#12, 0x003#12, 0x004#12, 0x007#12, 0x008#12, 0x00B#12, 0x00C#12, 0x00F#12, 0x010#12, 0x013#12, 0x014#12, 0x017#12,
    0x018#12, 0x3FF#12, 0x400#12, 0x7FF#12, 0x800#12, 0xBFF#12, 0xC00#12, 0xFFF#12]

/-- The map's words at those offsets: each range of HostReads and HostWrites has one, and no word is in two. -/
theorem test_map_edges : mapEdges.map (fun off => off.toNat / 4) =
    [0, 0, 1, 1, 2, 2, 3, 3, 4, 4, 5, 5, 6, 0xFF, 0x100, 0x1FF, 0x200, 0x2FF, 0x300, 0x3FF] := by decide

theorem witness_HostReads : ∀ off ∈ mapEdges, ∃ s s' : State, s.rstN = true ∧ nextMove s = (.hostRead off, s') :=
  fun off _ => ⟨told (.hostRead off) ready, _, rfl, rfl⟩

theorem witness_HostWrites : ∀ off ∈ mapEdges, ∃ s s' v, s.rstN = true ∧ nextMove s = (.hostWrite off v, s') :=
  fun off _ => ⟨told (.hostWrite off 0#32) ready, _, _, rfl, rfl⟩

theorem witness_TxBufferReadsBack : ∀ i ∈ [0, 255], ∃ (s s' t : State) (v : Word), s.rstN = true ∧ i < 256 ∧
    nextMove s = (.hostWrite (BitVec.ofNat 12 (0x400 + 4 * i)) v, s') ∧ step s = .next t := by
  intro i hi
  refine ⟨told (.hostWrite (BitVec.ofNat 12 (0x400 + 4 * i)) 0x48#32) ready, _, _, 0x48#32, rfl, ?_, rfl, rfl⟩
  simp only [List.mem_cons, List.not_mem_nil, or_false] at hi
  omega

theorem witness_StatusFields : ∃ s, s = { State.reset with eSdaLow := false, eSclLow := false } := ⟨_, rfl⟩

theorem witness_PollWaitsForRun :
    (∃ s s' : State, s.rstN = true ∧ nextMove s = (.poll, s') ∧ s.run = false) ∧
    (∃ s s' : State, s.rstN = true ∧ nextMove s = (.poll, s') ∧ s.run = true) :=
  ⟨⟨told .poll ready, _, rfl, rfl, rfl⟩, ⟨told .poll (running 6#32 ready), _, rfl, rfl, rfl⟩⟩

theorem witness_DivisorArithmetic :
    (∃ p : Params, 0 < p.fTclk) ∧ (∃ p : Params, p.fTclk = 16000000 ∧ p.divMin = 2 ∧ p.divMax = 65536) :=
  ⟨⟨⟨1, 2, 2, 0⟩, by decide⟩, ⟨⟨16000000, 2, 65536, 0⟩, rfl, rfl, rfl⟩⟩

/-- The divisor at both bounds (DV5, and DIV_MAX), just outside (DV7, DV10), and none (DV11). -/
theorem test_divisor_bounds :
    divisor ready.params 4000000#24 = some 2 ∧ divisor ⟨16000000, 2, 65041, 0⟩ 123#24 = some 65041 ∧
    divisor ready.params 8000000#24 = none ∧ divisor ready.params 122#24 = none ∧ divisor ready.params 0#24 = none := by
  decide

theorem witness_InitConfigures :
    ((running 0x03D09001#32 fresh).state = .idle ∧ divisor (running 0x03D09001#32 fresh).params 4000000#24 = some 2) ∧
    ((running 1#32 fresh).state = .idle ∧ divisor (running 1#32 fresh).params 0#24 = none) := by decide

theorem witness_BeginOpensTransaction : (running 0x00010502#32 ready).configured = true ∧
    (running 0x00010502#32 ready).state = .idle := by decide

/-! Both phases, for RSTART, WRITE, READ and END in a transaction; READ at its capacity. -/

theorem witness_RstartBeginsRepeatedStart : ∀ ph, (running 0x00000D03#32 (opened ph)).run = true ∧
    (running 0x00000D03#32 (opened ph)).state ≠ .idle := by decide

theorem witness_WriteBeginsPayload : ∀ ph, (running 0x00001004#32 (opened ph)).run = true ∧
    (running 0x00001004#32 (opened ph)).state ≠ .idle ∧ 256#9 ≠ 0#9 := by decide

theorem witness_ReadBeginsRepeatedStart : ∀ ph, (running 0x00006035#32 (opened ph)).run = true ∧
    (running 0x00006035#32 (opened ph)).state ≠ .idle ∧ 3#9 ≤ 3#9 := by decide

theorem witness_EndBeginsStop :
    (∀ ph, (running 6#32 (opened ph)).run = true ∧ (running 6#32 (opened ph)).state ≠ .idle) ∧
    (running 6#32 ready).run = true ∧ (running 6#32 ready).state = .idle := by decide

/-- One dispatch for each refusal. -/
theorem witness_RefusalsDisturbNothing :
    (Dispatching (running 0#32 (opened false)) (running 0#32 (opened false)) ∧ decode 0#32 = .error .reservedOp) ∧
    (Dispatching (running 0x00186A01#32 (opened false)) (running 0x00186A01#32 (opened false)) ∧
      decode 0x00186A01#32 = .ok (.init 100000#24) ∧ (opened false).state ≠ .idle) ∧
    (Dispatching (running 0x00010502#32 fresh) (running 0x00010502#32 fresh) ∧
      decode 0x00010502#32 = .ok (.beginTx 0x50#7 0x10#8 .write) ∧ fresh.configured = false) ∧
    (Dispatching (running 0x00010502#32 (opened false)) (running 0x00010502#32 (opened false)) ∧
      (opened false).configured = true ∧ (opened false).state ≠ .idle) ∧
    (Dispatching (running 0x00000503#32 ready) (running 0x00000503#32 ready) ∧
      decode 0x00000503#32 = .ok (.rstart 0x50#7 .write) ∧ ready.state = .idle) ∧
    (Dispatching (running 0x00000014#32 ready) (running 0x00000014#32 ready) ∧ decode 0x00000014#32 = .ok (.write 1#9)) ∧
    (Dispatching (running 0x00006055#32 ready) (running 0x00006055#32 ready) ∧
      decode 0x00006055#32 = .ok (.read 5#9 3#9)) ∧
    (Dispatching (running 0x00008055#32 (opened false)) (running 0x00008055#32 (opened false)) ∧
      decode 0x00008055#32 = .ok (.read 5#9 4#9) ∧ (opened false).state ≠ .idle ∧ 4#9 < 5#9) ∧
    (Dispatching (running 6#32 ready) (running 6#32 ready) ∧ decode 6#32 = .ok .endTx) :=
  ⟨⟨dispatching_opened _, by decide⟩, ⟨dispatching_opened _, by decide⟩, ⟨dispatching_fresh _, by decide⟩, ⟨dispatching_opened _, by decide⟩,
    ⟨dispatching_ready _, by decide⟩, ⟨dispatching_ready _, by decide⟩, ⟨dispatching_ready _, by decide⟩,
    ⟨dispatching_opened _, by decide⟩, ⟨dispatching_ready _, by decide⟩⟩

/-- The environment holds or releases SDA. -/
def held (b : Bool) (s : State) : State := { s with eSdaLow := b }

/-- For BeginCompletesAtTick37 (SDA held) and BeginAddressNackStopsAtTick20 (released): BEGIN accepted at Idle, at the
least bound that is not yet reached. -/
theorem witness_Begin_runs : ∀ b,
    Accepted (.beginTx 0x7F#7 0xFF#8 .read) (held b (running 0x000FFFF2#32 { ready with tolim := 1#16 })) ∧
    ClockOk (held b (running 0x000FFFF2#32 { ready with tolim := 1#16 })) ∧
    (held b (running 0x000FFFF2#32 { ready with tolim := 1#16 })).configured = true ∧
    (held b (running 0x000FFFF2#32 { ready with tolim := 1#16 })).state = .idle ∧
    (held b (running 0x000FFFF2#32 { ready with tolim := 1#16 })).eSdaLow = b := by
  unfold Accepted; decide

theorem witness_RstartOutcomes : ∀ ph b, Accepted (.rstart 0x50#7 .read) (held b (running 0x00000D03#32 (opened ph))) ∧
    Active (held b (running 0x00000D03#32 (opened ph))) ∧ (held b (running 0x00000D03#32 (opened ph))).eSdaLow = b := by
  unfold Accepted Active; decide

/-- For WriteTakes18TicksPerByte (SDA held) and WriteGivesUpAfterTenAttempts (released): WRITE of 1 and of 256 bytes, at both
phases. -/
theorem witness_Write_runs : ∀ ph b,
    (Accepted (.write 1#9) (held b (running 0x00000014#32 (opened ph))) ∧
      Active (held b (running 0x00000014#32 (opened ph))) ∧ 1#9 ≠ 0#9) ∧
    (Accepted (.write 256#9) (held b (running 0x00001004#32 (opened ph))) ∧
      Active (held b (running 0x00001004#32 (opened ph))) ∧ 256#9 ≠ 0#9) ∧
    (held b (running 0x00001004#32 (opened ph))).eSdaLow = b := by
  unfold Accepted Active; decide

/-- READ of 1 byte and of 256 bytes, the count at the capacity, at both phases. -/
theorem witness_ReadFillsRxbuf : ∀ ph,
    (Accepted (.read 1#9 1#9) (held true (running 0x00002015#32 (opened ph))) ∧
      Active (held true (running 0x00002015#32 (opened ph))) ∧ 1#9 ≤ 1#9) ∧
    (Accepted (.read 256#9 256#9) (held true (running 0x00201005#32 (opened ph))) ∧
      Active (held true (running 0x00201005#32 (opened ph))) ∧ 256#9 ≤ 256#9) := by
  unfold Accepted Active; decide

theorem witness_EndStopsAtRisingTick : ∀ ph, Accepted .endTx (running 6#32 (opened ph)) ∧ Active (running 6#32 (opened ph)) := by
  unfold Accepted Active; decide

/-- For InvNeverStops and every statement with the invariant as its premise: Idle, a dispatch, inside a
frame, inside a receive, and a stop. -/
theorem witness_MachineInv : MachineInv fresh ∧ MachineInv (running 0x00010502#32 ready) ∧ MachineInv (opened false) ∧
    MachineInv { inside true 0x00010502#32 (.ackHigh .beginReg) with sdaDrv := .hiz } ∧
    MachineInv { inside false 0x00006035#32 (.rxLow 0 true) with state := .payloadPhase, i := 2#9, xfer := 2#9 } ∧
    MachineInv { inside true 6#32 (.stopHigh .ok) with state := .stopCondition, sdaDrv := .low } :=
  ⟨by decide, by decide, by decide, by decide, by decide, by decide⟩

theorem witness_RunningCommandCompletes : MachineInv (running 0x00001004#32 (opened true)) ∧
    (running 0x00001004#32 (opened true)).rstN = true ∧ (running 0x00001004#32 (opened true)).run = true ∧
    (running 0x00001004#32 (opened true)).agenda = [] := by decide

/-- A held tick, and one not held at each phase. -/
theorem witness_TickEvent :
    (∃ s s' : State, nextMove s = (.block, s') ∧ TickMoves s .block ∧ s.phase = true ∧ s.sclIn = false) ∧
    (∃ s s' : State, nextMove s = (.block, s') ∧ TickMoves s .block ∧ s.phase = true ∧ s.sclIn = true) ∧
    (∃ s s' : State, nextMove s = (.block, s') ∧ TickMoves s .block ∧ s.phase = false) :=
  ⟨⟨{ opened true with eSclLow := true, stretchCnt := 0xFFFF#16 }, _, rfl, by unfold TickMoves; decide, by decide⟩,
    ⟨opened true, _, rfl, by unfold TickMoves; decide, by decide⟩,
    ⟨opened false, _, rfl, by unfold TickMoves; decide, by decide⟩⟩

/-- The counts at their limits: no cycle, and one less than the divisor. -/
theorem witness_ClockCyclesMakeTick : ∀ n ∈ [0, 1],
    (TickMoves { opened true with div := 2#32, agenda := List.replicate n .clk ++ [] } .clk ∧ (opened true).tcnt = 0#32 ∧
      n < (2#32 : Word).toNat) ∧
    (TickMoves { opened true with div := 2#32, agenda := List.replicate (2#32 : Word).toNat .clk ++ [] } .clk) := by
  unfold TickMoves; decide

theorem witness_SequencerBeforeTick :
    (∃ s s' : State, nextMove s = (.block, s') ∧ s.rstN = true ∧ s.sequencerEnabled = true) ∧
    (∃ s s' : State, nextMove s = (.block, s') ∧ s.rstN = true ∧ s.sequencerEnabled = false ∧ s.enabled = true) ∧
    (∃ s s' : State, nextMove s = (.block, s') ∧ s.rstN = true ∧ s.sequencerEnabled = false ∧ s.enabled = false) :=
  ⟨⟨running 6#32 (opened true), _, rfl, by decide⟩, ⟨opened true, _, rfl, by decide⟩, ⟨ready, _, rfl, by decide⟩⟩

theorem witness_LinesAndEnvironment : ∃ s s' : State, nextMove s = (.env true false, s') := ⟨told (.env true false) ready, _, rfl⟩

/-- A tick that changes the phase and SCL, an enable that changes the phase, and an end of a stop that changes SDA. -/
theorem witness_LineWriters :
    (∃ s s' t m, nextMove s = (m, s') ∧ step s = .next t ∧ t.phase ≠ s.phase ∧ t.sclO ≠ s.sclO) ∧
    (∃ s s' t m, nextMove s = (m, s') ∧ step s = .next t ∧ t.phase ≠ s.phase ∧ s.upc = .dispatch) ∧
    (∃ s s' t m, nextMove s = (m, s') ∧ step s = .next t ∧ t.sdaDrv ≠ s.sdaDrv) :=
  ⟨⟨opened true, _, _, _, rfl, rfl, by decide⟩,
    ⟨running 0x00010502#32 { ready with phase := false }, _, _, _, rfl, rfl, by decide⟩,
    ⟨running 6#32 (opened false), _, _, _, rfl, rfl, by decide⟩⟩

/-- An acknowledgement check that changes `S.ackr`. -/
theorem witness_AckrWriters : ∃ s s' t m, nextMove s = (m, s') ∧ step s = .next t ∧ t.ackr ≠ s.ackr ∧
    SequencerMoves s m ∧ s.upc = .ackHigh .beginReg ∧ s.isHigh = true ∧ s.run = true :=
  ⟨inside true 0x00010502#32 (.ackHigh .beginReg), _, _, _, rfl, rfl, by decide, by unfold SequencerMoves; decide, by decide⟩

/-- A step that changes each group of registers, each way the overrun flag changes among them. -/
theorem witness_RegisterWriters :
    (∃ s s' t m, nextMove s = (m, s') ∧ step s = .next t ∧ m ≠ .rst false ∧ t.sa ≠ s.sa ∧ t.ra ≠ s.ra) ∧
    (∃ s s' t m, nextMove s = (m, s') ∧ step s = .next t ∧ m ≠ .rst false ∧ t.mode ≠ s.mode) ∧
    (∃ s s' t m, nextMove s = (m, s') ∧ step s = .next t ∧ m ≠ .rst false ∧
      (t.div ≠ s.div ∨ t.configured ≠ s.configured)) ∧
    (∃ s s' t m, nextMove s = (m, s') ∧ step s = .next t ∧ m ≠ .rst false ∧ t.cmd ≠ s.cmd) ∧
    (∃ s s' t m, nextMove s = (m, s') ∧ step s = .next t ∧ m ≠ .rst false ∧ t.tolim ≠ s.tolim) ∧
    (∃ s s' t m, nextMove s = (m, s') ∧ step s = .next t ∧ m ≠ .rst false ∧ t.txbuf ≠ s.txbuf) ∧
    (∃ s s' t m, nextMove s = (m, s') ∧ step s = .next t ∧ m ≠ .rst false ∧ t.ovr ≠ s.ovr ∧ t.ovr = true) ∧
    (∃ s s' t m, nextMove s = (m, s') ∧ step s = .next t ∧ m ≠ .rst false ∧ t.ovr ≠ s.ovr ∧ t.ovr = false) :=
  ⟨⟨running 0x00010502#32 ready, _, _, _, rfl, rfl, by decide⟩,
    ⟨running 0x00006035#32 (opened true), _, _, _, rfl, rfl, by decide⟩,
    ⟨running 0x00186A01#32 fresh, _, _, _, rfl, rfl, by decide⟩,
    ⟨told (.hostWrite 0x003#12 6#32) ready, _, _, _, rfl, rfl, by decide⟩,
    ⟨told (.hostWrite 0x013#12 3#32) ready, _, _, _, rfl, rfl, by decide⟩,
    ⟨told (.hostWrite 0x7FF#12 0x48#32) ready, _, _, _, rfl, rfl, by decide⟩,
    ⟨told (.hostWrite 0x000#12 6#32) (running 6#32 ready), _, _, _, rfl, rfl, by decide⟩,
    ⟨told (.hostWrite 0x007#12 0x800#32) { ready with ovr := true }, _, _, _, rfl, rfl, by decide⟩⟩

theorem witness_ResultWrittenOnceAtCompletion : ∃ s s' t m, nextMove s = (m, s') ∧ step s = .next t ∧ m ≠ .rst false ∧
    t.result ≠ s.result ∧ s.run = true ∧ t.run = false :=
  ⟨running 6#32 ready, _, _, _, rfl, rfl, by decide⟩

/-- Every frame at its first bit. -/
theorem witness_FrameDrivesMsbFirst :
    ∀ f ∈ [Frame.beginAddr, .beginReg, .restartAddr .rstart, .restartAddr .read, .payload],
    (inside false 0x00010502#32 (.bitLow f 7)).rstN = true ∧ (inside false 0x00010502#32 (.bitLow f 7)).run = true ∧
    (inside false 0x00010502#32 (.bitLow f 7)).enabled = true ∧ (inside false 0x00010502#32 (.bitLow f 7)).scla = true ∧
    (inside false 0x00010502#32 (.bitLow f 7)).sclO = false ∧ (inside false 0x00010502#32 (.bitLow f 7)).phase = false ∧
    (inside false 0x00010502#32 (.bitLow f 7)).agenda = [] ∧ (inside false 0x00010502#32 (.bitLow f 7)).eSclLow = false ∧
    (inside false 0x00010502#32 (.bitLow f 7)).stretchCnt < (inside false 0x00010502#32 (.bitLow f 7)).tolim ∧
    (inside false 0x00010502#32 (.bitLow f 7)).upc = .bitLow f 7 := by decide

theorem witness_LoopbackReceivesByte : ∃ s : State,
    s.rstN = true ∧ s.run = true ∧ s.enabled = true ∧ s.scla = true ∧ s.sclO = false ∧ s.phase = false ∧
    s.sdaDrv ≠ .low ∧ s.stretchCnt < s.tolim ∧ s.upc = .rxHigh 7 ∧ s.rxb = 0#8 ∧ s.agenda = loopback 0x48#8 :=
  ⟨{ inside false 0x00006035#32 (.rxHigh 7) with agenda := loopback 0x48#8, state := .payloadPhase }, by decide⟩

/-- NACK before the tenth attempt and at it, and an ACK before the last byte and at it. -/
theorem witness_PayloadRetryPolicy :
    (∃ s s' : State, nextMove s = (.block, s') ∧ s.rstN = true ∧ s.run = true ∧ s.phase = false ∧ s.upc = .ackEnd .payload ∧
      s.ackr = false ∧ s.att ≠ 10#4) ∧
    (∃ s s' : State, nextMove s = (.block, s') ∧ s.rstN = true ∧ s.run = true ∧ s.phase = false ∧ s.upc = .ackEnd .payload ∧
      s.ackr = false ∧ s.att = 10#4) ∧
    (∃ s s' : State, nextMove s = (.block, s') ∧ s.rstN = true ∧ s.run = true ∧ s.phase = false ∧ s.upc = .ackEnd .payload ∧
      s.ackr = true ∧ s.i.toNat + 1 < s.count) ∧
    (∃ s s' : State, nextMove s = (.block, s') ∧ s.rstN = true ∧ s.run = true ∧ s.phase = false ∧ s.upc = .ackEnd .payload ∧
      s.ackr = true ∧ s.count ≤ s.i.toNat + 1) :=
  ⟨⟨{ inside false 0x00000024#32 (.ackEnd .payload) with ackr := false, att := 9#4 }, _, rfl, by decide⟩,
    ⟨{ inside false 0x00000024#32 (.ackEnd .payload) with ackr := false, att := 10#4 }, _, rfl, by decide⟩,
    ⟨{ inside false 0x00000024#32 (.ackEnd .payload) with i := 0#9 }, _, rfl, by decide⟩,
    ⟨{ inside false 0x00000024#32 (.ackEnd .payload) with i := 1#9 }, _, rfl, by decide⟩⟩

/-- Each acknowledged frame, READ's with the least count. -/
theorem witness_AcknowledgedFrameGoesOn :
    ∀ f ∈ [Frame.beginAddr, .beginReg, .restartAddr .rstart, .restartAddr .read],
    ∃ s s' : State, nextMove s = (.block, s') ∧ s.rstN = true ∧ s.run = true ∧ s.phase = false ∧ s.ackr = true ∧
      s.upc = .ackEnd f ∧ 0 < s.count :=
  fun f _ => ⟨inside false 0x00002015#32 (.ackEnd f), _, rfl, rfl, rfl, rfl, rfl, rfl, by
    change 0 < (Word.count 0x00002015#32).toNat; decide⟩

/-- A frame whose acknowledgement was not given, about to return it. -/
def unanswered (f : Frame) : State := { inside false 0x00010502#32 (.ackEnd f) with ackr := false }

/-- The three phase codes, the last for both restarted address frames. -/
theorem witness_NackAbortsWithStop :
    ∀ c ∈ [(Frame.beginAddr, 1#2), (.beginReg, 2#2), (.restartAddr .rstart, 3#2), (.restartAddr .read, 3#2)],
    ((c.1 = .beginAddr ∧ c.2 = 1#2) ∨ (c.1 = .beginReg ∧ c.2 = 2#2) ∨ ((∃ r, c.1 = .restartAddr r) ∧ c.2 = 3#2)) ∧
    (unanswered c.1).rstN = true ∧ (unanswered c.1).run = true ∧ (unanswered c.1).enabled = true ∧
    (unanswered c.1).scla = true ∧ (unanswered c.1).sclO = false ∧ (unanswered c.1).phase = false ∧
    (unanswered c.1).agenda = [] ∧ (unanswered c.1).eSclLow = false ∧
    (unanswered c.1).stretchCnt < (unanswered c.1).tolim ∧ (unanswered c.1).upc = .ackEnd c.1 ∧
    (unanswered c.1).ackr = false := by
  intro c hc
  simp only [List.mem_cons, List.not_mem_nil, or_false] at hc
  rcases hc with rfl | rfl | rfl | rfl
  exacts [⟨.inl ⟨rfl, rfl⟩, by decide⟩, ⟨.inr (.inl ⟨rfl, rfl⟩), by decide⟩,
    ⟨.inr (.inr ⟨⟨_, rfl⟩, rfl⟩), by decide⟩, ⟨.inr (.inr ⟨⟨_, rfl⟩, rfl⟩), by decide⟩]

/-- The bound exactly reached: at a HIGH await that is held, and at one that holds. -/
theorem witness_TimeoutForcesRelease :
    (∃ s s' l, nextMove s = (.block, s') ∧ s.rstN = true ∧ s.run = true ∧ s.upc.awaits = some l ∧ s.tolim ≤ s.stretchCnt ∧
      s.holds l = false) ∧
    (∃ s s' l, nextMove s = (.block, s') ∧ s.rstN = true ∧ s.run = true ∧ s.upc.awaits = some l ∧ s.tolim ≤ s.stretchCnt ∧
      s.holds l = true) :=
  ⟨⟨{ inside true 0x14#32 (.bitHigh .payload 0) with tolim := 3#16, stretchCnt := 3#16, eSclLow := true }, _, .high, rfl,
      by decide⟩,
    ⟨{ inside true 0x14#32 (.bitHigh .payload 0) with tolim := 3#16, stretchCnt := 3#16 }, _, .high, rfl, by decide⟩⟩

/-- A step that writes RXBUF, one that first takes a byte from TXBUF, and one that takes the next. -/
theorem witness_SequencerBufferAccesses :
    (∃ s s' t m, MachineInv s ∧ nextMove s = (m, s') ∧ step s = .next t ∧ m ≠ .rst false ∧ t.rxbuf ≠ s.rxbuf) ∧
    (∃ s s' t m, MachineInv s ∧ nextMove s = (m, s') ∧ step s = .next t ∧ m ≠ .rst false ∧ t.txb ≠ s.txb ∧ s.upc = .dispatch) ∧
    (∃ s s' t m, MachineInv s ∧ nextMove s = (m, s') ∧ step s = .next t ∧ m ≠ .rst false ∧ t.txb ≠ s.txb ∧
      s.upc = .ackEnd .payload) :=
  ⟨⟨{ inside false 0x00006035#32 (.rxLow 0 true) with state := .payloadPhase, i := 2#9, xfer := 2#9 }, _, _, _, by decide, rfl,
      rfl, by decide⟩,
    ⟨running 0x00000014#32 (opened false), _, _, _, by decide, rfl, rfl, by decide⟩,
    ⟨{ inside false 0x00000024#32 (.ackEnd .payload) with
        state := .payloadPhase, att := 1#4, txb := 0x48#8, txbuf := [(0, 0x48#8), (1, 0x49#8)] },
      _, _, _, by decide, rfl, rfl, by decide⟩⟩

theorem witness_StepKeepsInv : ∃ s t, MachineInv s ∧ step s = .next t := ⟨opened false, _, by decide, rfl⟩

theorem witness_ClockAndLineInvariants : ∃ a k t, runsTo k { State.reset with agenda := a } t :=
  ⟨[.hostWrite 0#12 6#32, .block], 2, _, _, rfl, _, rfl, rfl⟩

/-- A step that changes the transaction state, and one that leaves no command running. -/
theorem witness_TransactionStateChain :
    (∃ s s' t m, MachineInv s ∧ nextMove s = (m, s') ∧ step s = .next t ∧ m ≠ .rst false ∧ t.state ≠ s.state) ∧
    (∃ s s' t m, MachineInv s ∧ nextMove s = (m, s') ∧ step s = .next t ∧ m ≠ .rst false ∧ t.run = false) :=
  ⟨⟨running 0x00010502#32 ready, _, _, _, by decide, rfl, rfl, by decide⟩,
    ⟨running 0x00000006#32 ready, _, _, _, by decide, rfl, rfl, by decide⟩⟩

/-- A legal word, an illegal one, and a BEGIN that ends its stop after a NACK. -/
theorem witness_ResultCodesInTheirRow :
    (∃ s s' t m i, MachineInv s ∧ nextMove s = (m, s') ∧ step s = .next t ∧ m ≠ .rst false ∧ s.run = true ∧ t.run = false ∧
      decode s.cmd = .ok i) ∧
    (∃ s s' t m e, MachineInv s ∧ nextMove s = (m, s') ∧ step s = .next t ∧ m ≠ .rst false ∧ s.run = true ∧ t.run = false ∧
      decode s.cmd = .error e) ∧
    (∃ s s' t m, MachineInv s ∧ nextMove s = (m, s') ∧ step s = .next t ∧ m ≠ .rst false ∧ s.run = true ∧ t.run = false ∧
      t.result.toNat % 16 = 1) :=
  ⟨⟨running 6#32 ready, _, _, _, .endTx, by decide, rfl, rfl, by decide⟩,
    ⟨running 0#32 ready, _, _, _, .reservedOp, by decide, rfl, rfl, by decide⟩,
    ⟨{ inside true 0x00010502#32 (.stopHigh .noAck) with state := .stopCondition, sdaDrv := .low, nakph := 1#2 }, _, _, _,
      by decide, rfl, rfl, by decide⟩⟩

/-- SDA moves at phase 0, at the repeated start, at the stop and at a forced release. -/
theorem witness_SdaStableWhileSclHigh :
    (∃ s s' t m, MachineInv s ∧ nextMove s = (m, s') ∧ step s = .next t ∧ m ≠ .rst false ∧ s.eSdaLow = false ∧
      t.eSdaLow = false ∧ s.enabled = true ∧ t.sdaIn ≠ s.sdaIn ∧ s.phase = false) ∧
    (∃ s s' t m, MachineInv s ∧ nextMove s = (m, s') ∧ step s = .next t ∧ m ≠ .rst false ∧ s.eSdaLow = false ∧
      t.eSdaLow = false ∧ s.enabled = true ∧ t.sdaIn ≠ s.sdaIn ∧ s.upc = .rsHigh .rstart) ∧
    (∃ s s' t m, MachineInv s ∧ nextMove s = (m, s') ∧ step s = .next t ∧ m ≠ .rst false ∧ s.eSdaLow = false ∧
      t.eSdaLow = false ∧ s.enabled = true ∧ t.sdaIn ≠ s.sdaIn ∧ s.upc = .stopHigh .ok ∧ s.blocked = false) ∧
    (∃ s s' t m, MachineInv s ∧ nextMove s = (m, s') ∧ step s = .next t ∧ m ≠ .rst false ∧ s.eSdaLow = false ∧
      t.eSdaLow = false ∧ s.enabled = true ∧ t.sdaIn ≠ s.sdaIn ∧ s.blocked = true ∧ s.timedOut = true) :=
  ⟨⟨running 6#32 (opened false), _, _, _, by decide, rfl, rfl, by decide⟩,
    ⟨{ inside true 0x00000D03#32 (.rsHigh .rstart) with state := .repeatedStart }, _, _, _, by decide, rfl, rfl, by decide⟩,
    ⟨{ inside true 6#32 (.stopHigh .ok) with state := .stopCondition, sdaDrv := .low }, _, _, _, by decide, rfl, rfl,
      by decide⟩,
    ⟨{ inside true 6#32 (.stopHigh .ok) with
        state := .stopCondition, sdaDrv := .low, eSclLow := true, tolim := 1#16, stretchCnt := 1#16 },
      _, _, _, by decide, rfl, rfl, by decide⟩⟩

/-- Two ticks of an open transaction. -/
theorem witness_OpenTransactionOnlyTicks : ∃ s t, s.rstN = true ∧ s.run = false ∧ s.agenda = [] ∧ runsTo 2 s t :=
  ⟨opened false, _, rfl, rfl, rfl, _, rfl, _, rfl, rfl⟩

end Sys2Proof.Tests
end

/-! The layout of a word of fields as a sum (R46, R51, R53), and what a legal word carries (R81–R84). -/

namespace Sys2Proof.Machine

theorem toNat_mul_two_pow_lt {n lo m : Nat} (x : BitVec n) (hm : lo + n ≤ m) : x.toNat * 2 ^ lo < 2 ^ m :=
  calc x.toNat * 2 ^ lo < 2 ^ n * 2 ^ lo := Nat.mul_lt_mul_of_pos_right x.isLt (Nat.two_pow_pos lo)
    _ = 2 ^ (lo + n) := by rw [Nat.pow_add, Nat.mul_comm]
    _ ≤ 2 ^ m := Nat.pow_le_pow_right (by decide) hm

/-- A field that fits the word is its value at its place (R80, R46, R51, R53). -/
theorem toNat_fieldAt {n lo : Nat} (x : BitVec n) (hlo : lo + n ≤ 32) : (fieldAt x lo).toNat = x.toNat * 2 ^ lo := by
  have hn : x.toNat % 2 ^ 32 = x.toNat :=
    Nat.mod_eq_of_lt (Nat.lt_of_lt_of_le x.isLt (Nat.pow_le_pow_right (by decide) (by omega)))
  rw [fieldAt, BitVec.toNat_shiftLeft, BitVec.toNat_setWidth, hn, Nat.shiftLeft_eq,
    Nat.mod_eq_of_lt (toNat_mul_two_pow_lt x hlo)]

/-- A field placed above everything a word holds adds to it. -/
theorem toNat_or_fieldAt {n lo : Nat} {w : Word} {x : BitVec n} (hw : w.toNat < 2 ^ lo) (hlo : lo + n ≤ 32) :
    (w ||| fieldAt x lo).toNat = w.toNat + x.toNat * 2 ^ lo := by
  rw [BitVec.toNat_or, toNat_fieldAt x hlo, Nat.or_comm, Nat.mul_comm, ← Nat.two_pow_add_eq_or_of_lt hw, Nat.add_comm]

/-- R51's layout as a sum. -/
theorem toNat_resultWord (op att : BitVec 4) (xfer : BitVec 9) (nakph : BitVec 2) (c : ResultCode) :
    (resultWord op att xfer nakph c).toNat =
      c.code.toNat + nakph.toNat * 2 ^ 4 + xfer.toNat * 2 ^ 8 + att.toNat * 2 ^ 20 + op.toNat * 2 ^ 24 := by
  have h0 : (fieldAt c.code 0).toNat = c.code.toNat := by rw [toNat_fieldAt _ (by decide), Nat.pow_zero, Nat.mul_one]
  have h1 := toNat_or_fieldAt (w := fieldAt c.code 0) (x := nakph) (lo := 4) (by omega) (by decide)
  have h2 := toNat_or_fieldAt (w := _) (x := xfer) (lo := 8) (by rw [h1]; omega) (by decide)
  have h3 := toNat_or_fieldAt (w := _) (x := att) (lo := 20) (by rw [h2]; omega) (by decide)
  have h4 := toNat_or_fieldAt (w := _) (x := op) (lo := 24) (by rw [h3]; omega) (by decide)
  rw [resultWord, h4, h3, h2, h1, h0]

theorem resultCode_resultWord (op att : BitVec 4) (xfer : BitVec 9) (nakph : BitVec 2) (c : ResultCode) :
    resultCode (resultWord op att xfer nakph c) = c.code := by
  apply BitVec.eq_of_toNat_eq
  rw [resultCode, BitVec.extractLsb'_toNat, toNat_resultWord]
  omega

theorem op_resultWord (op att : BitVec 4) (xfer : BitVec 9) (nakph : BitVec 2) (c : ResultCode) :
    (resultWord op att xfer nakph c).extractLsb' 24 4 = op := by
  apply BitVec.eq_of_toNat_eq
  rw [BitVec.extractLsb'_toNat, toNat_resultWord]
  omega

/-- A command that ends with a code of its row leaves a legal RESULT (R221). -/
theorem resultOk_resultWord {op att : BitVec 4} {xfer : BitVec 9} {nakph : BitVec 2} {c : ResultCode}
    (h : codeAllowed op c = true) : resultOk (resultWord op att xfer nakph c) = true := by
  have hc : c ∈ ResultCode.all := by cases c <;> decide
  simp only [resultOk, Bool.or_eq_true, List.any_eq_true]
  exact .inr ⟨c, hc, by simp [resultCode_resultWord, op_resultWord, h]⟩

/-- The word `w` carries command `i`: its OP, its fields and their conditions (R81, R82). -/
def Carries (w : Word) : Instr → Prop
  | .init f           => Word.op w = 1#4 ∧ f = Word.freq w
  | .beginTx sa ra md => Word.op w = 2#4 ∧ sa = Word.sa w ∧ ra = Word.ra w ∧ md = Word.mode w
  | .rstart sa md     => Word.op w = 3#4 ∧ sa = Word.sa w ∧ md = Word.mode w
  | .write n          => Word.op w = 4#4 ∧ n = Word.count w ∧ n ≤ 256#9
  | .read n cap       => Word.op w = 5#4 ∧ n = Word.count w ∧ cap = Word.cap w ∧ n ≠ 0#9 ∧ n ≤ 256#9 ∧ cap ≤ 256#9
  | .endTx            => Word.op w = 6#4

theorem carries_of_decode {w : Word} {i : Instr} (h : decode w = .ok i) : Carries w i := by
  unfold decode at h
  split_ifs at h <;> cases h <;> simp_all [Carries]

theorem legal_iff {s : State} : s.legal = true ↔ ∃ i, decode s.cmd = .ok i := by
  unfold State.legal
  cases decode s.cmd <;> simp

/-- A legal READ receives at most as many bytes as a buffer has entries (R83). -/
theorem count_le_of_legal_read {s : State} (hl : s.legal = true) (hop : Word.op s.cmd = 5#4) : s.count ≤ bufSize := by
  obtain ⟨i, hi⟩ := legal_iff.1 hl
  have hc := carries_of_decode hi
  cases i with
  | read n cap =>
    obtain ⟨-, rfl, -, -, hn, -⟩ := hc
    exact hn
  | init f => simp [Carries, hop] at hc
  | beginTx sa ra md => simp [Carries, hop] at hc
  | rstart sa md => simp [Carries, hop] at hc
  | write n => simp [Carries, hop] at hc
  | endTx => simp [Carries, hop] at hc

end Sys2Proof.Machine

/-! The invariant in parts: what each update of the state makes of them, and what they say of the running routine. -/

namespace Sys2Proof.Machine

/-- The part of the invariant that does not depend on where the routine stands. -/
abbrev BaseInv (s : State) : Prop :=
  ConfigOk s ∧ ClockOk s ∧ ResetOk s ∧ BuffersOk s ∧ resultOk s.result = true

/-- The parts of the invariant: what the routine's position says, and the rest. -/
theorem machineInv_iff {s : State} : MachineInv s ↔ BaseInv s ∧ routineOk s = true := by
  simp only [MachineInv, BaseInv, and_assoc]

theorem MachineInv.base {s : State} (h : MachineInv s) : BaseInv s := (machineInv_iff.1 h).1

/-- A configured divisor is positive, DIV_MIN being at least 2 (R7, R101). -/
theorem ConfigOk.div_pos {s : State} (h : ConfigOk s) (hc : s.configured = true) : 0#32 < s.div := by
  obtain ⟨⟨-, hmin, -⟩, -, -, hyes⟩ := h
  have := (hyes hc).1
  rw [BitVec.lt_def, BitVec.toNat_ofNat]
  omega

/-! What an update of the clock, the lines or the transaction state makes of `BaseInv`. An update of a field that
`BaseInv` does not read leaves it by definition. -/

section
variable {s : State}

/-- In a transaction another state of it can be entered (R44 (a)). -/
theorem BaseInv.enter (hb : BaseInv s) (he : s.enabled = true) {st : TxState} (hst : st ≠ .idle) :
    BaseInv { s with state := st } := by
  obtain ⟨hcfg, ⟨-, hon, hoff⟩, hrest⟩ := hb
  exact ⟨hcfg, ⟨iff_of_true he hst, hon, hoff⟩, hrest⟩

/-- With the clock on SDA can be driven anyhow (R44 (d)). -/
theorem BaseInv.drive (hb : BaseInv s) (he : s.enabled = true) (d : SdaDrv) : BaseInv (driveSda d s) := by
  obtain ⟨hcfg, ⟨hidle, hon, -⟩, hrest⟩ := hb
  exact ⟨hcfg, ⟨hidle, hon, fun h => by simp [he] at h⟩, hrest⟩

/-- Both lines released and the clock off, at Idle: what a stop and a forced release leave (R175, R226). -/
theorem BaseInv.close (hb : BaseInv s) :
    BaseInv { disableClock (driveSda .hiz s) with state := .idle } := by
  obtain ⟨hcfg, -, hreset, hrest⟩ := hb
  exact ⟨hcfg, by simp [ClockOk], fun h => ⟨(hreset h).1, rfl⟩, hrest⟩

theorem BaseInv.writeRx (hb : BaseInv s) {j : Nat} (hj : j < bufSize) (v : Byte) : BaseInv (writeRx j v s) := by
  obtain ⟨hcfg, hclk, hreset, ⟨htx, hrx⟩, hres⟩ := hb
  exact ⟨hcfg, hclk, hreset, ⟨htx, Memory.write_wf hrx hj v⟩, hres⟩

theorem BaseInv.writeTx (hb : BaseInv s) {j : Nat} (hj : j < bufSize) (v : Byte) : BaseInv (writeTx j v s) := by
  obtain ⟨hcfg, hclk, hreset, ⟨htx, hrx⟩, hres⟩ := hb
  exact ⟨hcfg, hclk, hreset, ⟨Memory.write_wf htx hj v, hrx⟩, hres⟩

/-- A tick keeps SCL with the phase while the start is latched, and restarts the counter (R103, R104). -/
theorem BaseInv.tickExpiry (hb : BaseInv s) (he : s.enabled = true) : BaseInv (tickExpiry s) := by
  obtain ⟨hcfg, ⟨hidle, hon, -⟩, hrest⟩ := hb
  obtain ⟨hscla, hscl, hconf, -⟩ := hon he
  have hdiv := ConfigOk.div_pos hcfg hconf
  refine ⟨?_, ?_, ?_⟩
  · rw [tickExpiry_eq]; exact hcfg
  · by_cases h : s.phase = false ∨ s.sclIn = true
    · rw [tickExpiry_inverts h]
      exact ⟨hidle, fun _ => ⟨hscla, by simp [hscla, hscl], hconf, hdiv⟩, fun h => by simp [he] at h⟩
    · obtain ⟨hp, hs⟩ : s.phase = true ∧ s.sclIn = false := by simpa using h
      rw [tickExpiry_held hp hs]
      exact ⟨hidle, fun _ => ⟨hscla, hscl, hconf, hdiv⟩, fun h => by simp [he] at h⟩
  · rw [tickExpiry_eq]; exact hrest

/-- In a transaction the clock runs (R44 (a)). -/
theorem BaseInv.enabled (hb : BaseInv s) (hst : s.state ≠ .idle) : s.enabled = true := by
  obtain ⟨-, ⟨hidle, -⟩, -⟩ := hb
  exact hidle.2 hst

/-! The end of a command (R183). -/

/-- A command that ends with a code of its row, in a resting state, keeps the invariant. -/
theorem complete_inv {c : ResultCode} (hb : BaseInv s) (hr : resting s = true)
    (hc : codeAllowed (Word.op s.cmd) c = true) : MachineInv (complete c s) := by
  obtain ⟨hcfg, hclk, hreset, hbuf, -⟩ := hb
  exact ⟨hcfg, hclk, fun h => ⟨rfl, (hreset h).2⟩, hbuf, resultOk_resultWord hc, by simpa [routineOk, resting] using hr⟩

theorem forcedRelease_inv (hb : BaseInv s) (hc : codeAllowed (Word.op s.cmd) .clockStretchTimeout = true) :
    MachineInv (forcedRelease s) :=
  complete_inv hb.close rfl hc

end

/-! What the invariant says of the running routine. -/

section
variable {s : State} {f : Frame}

/-- A legal command with this OP runs with the clock on, and no phase of it has failed. -/
abbrev Running (op : BitVec 4) (s : State) : Prop :=
  s.run = true ∧ s.enabled = true ∧ s.legal = true ∧ Word.op s.cmd = op ∧ s.nakph = 0#2

theorem frameOk_running (h : frameOk f s = true) : Running f.op s := by
  simp only [frameOk, Bool.and_eq_true, decide_eq_true_eq] at h
  obtain ⟨⟨⟨⟨⟨hrun, hen⟩, hleg⟩, hop⟩, hnak⟩, -⟩ := h
  exact ⟨hrun, hen, hleg, hop, hnak⟩

theorem frameOk_enabled (h : frameOk f s = true) : s.enabled = true := by
  obtain ⟨-, he, -⟩ := frameOk_running h
  exact he

theorem frameOk_payload : frameOk .payload s = true ↔
    Running 4#4 s ∧ s.state = .payloadPhase ∧ s.i.toNat < s.count ∧ s.xfer = s.i ∧ 1#4 ≤ s.att ∧
      s.att ≤ retryLimit := by
  simp only [frameOk, Bool.and_eq_true, decide_eq_true_eq, and_assoc]
  exact Iff.rfl

theorem frameOk_beginAddr : frameOk .beginAddr s = true ↔
    Running 2#4 s ∧ s.xfer = 0#9 ∧ s.att = 0#4 := by
  simp only [frameOk, Bool.and_eq_true, decide_eq_true_eq, and_assoc]
  exact Iff.rfl

theorem frameOk_restartRstart : frameOk (.restartAddr .rstart) s = true ↔
    Running 3#4 s ∧ s.xfer = 0#9 ∧ s.att = 0#4 := by
  simp only [frameOk, Bool.and_eq_true, decide_eq_true_eq, and_assoc]
  exact Iff.rfl

theorem frameOk_restartRead : frameOk (.restartAddr .read) s = true ↔
    Running 5#4 s ∧ s.xfer = 0#9 ∧ s.att = 0#4 ∧ s.count ≤ (Word.cap s.cmd).toNat := by
  simp only [frameOk, Bool.and_eq_true, decide_eq_true_eq, and_assoc]
  exact Iff.rfl

/-- A frame that is not a payload byte has counted nothing. -/
theorem frameOk_counters (h : frameOk f s = true) (hf : f ≠ .payload) : s.xfer = 0#9 ∧ s.att = 0#4 := by
  rcases f with _ | _ | (_ | _) | _ <;> simp_all [frameOk]

theorem receiveOk_iff {d : Nat} : receiveOk d s = true ↔
    Running 5#4 s ∧ s.att = 0#4 ∧ s.state = .payloadPhase ∧ s.i.toNat < s.count ∧
      s.count ≤ (Word.cap s.cmd).toNat ∧ s.xfer.toNat = s.i.toNat + d := by
  simp [receiveOk, and_assoc]

theorem receiveOk_enabled {d : Nat} (h : receiveOk d s = true) : s.enabled = true := by
  obtain ⟨⟨-, he, -⟩, -⟩ := receiveOk_iff.1 h
  exact he

/-! What a stop needs, by its code (R181, R184, R225). -/

theorem stopOk_ok : stopOk .ok s = true ↔
    (s.run = true ∧ s.enabled = true ∧ s.legal = true ∧ s.state = .stopCondition) ∧
      Word.op s.cmd = 6#4 ∧ s.nakph = 0#2 ∧ s.xfer = 0#9 ∧ s.att = 0#4 := by
  simp [stopOk, and_assoc]

theorem stopOk_noAck : stopOk .noAck s = true ↔
    (s.run = true ∧ s.enabled = true ∧ s.legal = true ∧ s.state = .stopCondition) ∧ s.xfer = 0#9 ∧ s.att = 0#4 ∧
      (Word.op s.cmd = 2#4 ∧ (s.nakph = 1#2 ∨ s.nakph = 2#2) ∨
        (Word.op s.cmd = 3#4 ∨ Word.op s.cmd = 5#4) ∧ s.nakph = 3#2) := by
  simp [stopOk, and_assoc]

theorem stopOk_maxRetries : stopOk .maxRetriesExceeded s = true ↔
    (s.run = true ∧ s.enabled = true ∧ s.legal = true ∧ s.state = .stopCondition) ∧
      Word.op s.cmd = 4#4 ∧ s.att = retryLimit ∧ s.nakph = 0#2 := by
  simp [stopOk, and_assoc]

theorem stopOk_base {c : ResultCode} (h : stopOk c s = true) :
    s.run = true ∧ s.enabled = true ∧ s.legal = true ∧ s.state = .stopCondition := by
  simp only [stopOk, Bool.and_eq_true, decide_eq_true_eq] at h
  obtain ⟨⟨⟨⟨hrun, hen⟩, hleg⟩, hst⟩, -⟩ := h
  exact ⟨hrun, hen, hleg, hst⟩

theorem stopOk_enabled {c : ResultCode} (h : stopOk c s = true) : s.enabled = true := by
  obtain ⟨-, he, -⟩ := stopOk_base h
  exact he

/-- The command a stop belongs to can end with the stop's code, and with a timeout (R221). -/
theorem stopOk_codeAllowed {c : ResultCode} (h : stopOk c s = true) :
    codeAllowed (Word.op s.cmd) c = true ∧ codeAllowed (Word.op s.cmd) .clockStretchTimeout = true := by
  cases c with
  | ok =>
    obtain ⟨-, hop, -⟩ := stopOk_ok.1 h
    simp [codeAllowed, hop]
  | noAck =>
    obtain ⟨-, -, -, ⟨hop, -⟩ | ⟨hop | hop, -⟩⟩ := stopOk_noAck.1 h <;> simp [codeAllowed, hop]
  | maxRetriesExceeded =>
    obtain ⟨-, hop, -⟩ := stopOk_maxRetries.1 h
    simp [codeAllowed, hop]
  | _ => simp [stopOk] at h

/-- The command of a frame can end with a timeout (R221). -/
theorem Frame.timeoutAllowed (f : Frame) : codeAllowed f.op .clockStretchTimeout = true := by
  rcases f with _ | _ | (_ | _) | _ <;> decide

/-- A frame enters a state of the transaction. -/
theorem Frame.entered_ne_idle (h : frameOk f s = true) : f.entered s ≠ .idle := by
  rcases f with _ | _ | (_ | _) | _
  case payload =>
    obtain ⟨-, hst, -⟩ := frameOk_payload.1 h
    simp [Frame.entered, hst]
  case restartAddr.rstart => simp only [Frame.entered]; split <;> simp
  all_goals simp [Frame.entered]

/-! `routineOk`, once per position. -/

section
variable {k : Fin 8} {r : Restart} {b : Bool} {c : ResultCode}

theorem routineOk_noRoutine (h : s.upc = .noRoutine) : routineOk s = true ↔ s.run = false ∧ resting s = true := by
  simp [routineOk, h]

theorem routineOk_dispatch (h : s.upc = .dispatch) : routineOk s = true ↔ s.run = true ∧ resting s = true := by
  simp [routineOk, h]

theorem routineOk_bitLow (h : s.upc = .bitLow f k) :
    routineOk s = true ↔ frameOk f s = true ∧ s.state = if k = 7 then f.before else f.entered s := by
  simp [routineOk, h]

/-- A frame stands at its first bit. -/
theorem routineOk_firstBit (h : s.upc = .bitLow f 7) : routineOk s = true ↔ frameOk f s = true ∧ s.state = f.before :=
  routineOk_bitLow h

theorem routineOk_bitHigh (h : s.upc = .bitHigh f k) :
    routineOk s = true ↔ frameOk f s = true ∧ s.state = f.entered s := by
  simp [routineOk, h]

theorem routineOk_ackLow (h : s.upc = .ackLow f) :
    routineOk s = true ↔ frameOk f s = true ∧ s.state = f.entered s := by
  simp [routineOk, h]

theorem routineOk_ackHigh (h : s.upc = .ackHigh f) :
    routineOk s = true ↔ frameOk f s = true ∧ s.state = f.entered s ∧ s.sdaDrv = .hiz := by
  simp [routineOk, h, and_assoc]

theorem routineOk_ackEnd (h : s.upc = .ackEnd f) :
    routineOk s = true ↔ frameOk f s = true ∧ s.state = f.entered s ∧ s.sdaDrv = .hiz := by
  simp [routineOk, h, and_assoc]

theorem routineOk_rsLow (h : s.upc = .rsLow r) :
    routineOk s = true ↔ frameOk (.restartAddr r) s = true ∧ s.state = .repeatedStart := by
  simp [routineOk, h]

theorem routineOk_rsHigh (h : s.upc = .rsHigh r) :
    routineOk s = true ↔ frameOk (.restartAddr r) s = true ∧ s.state = .repeatedStart ∧ s.sdaDrv = .hiz := by
  simp [routineOk, h, and_assoc]

theorem routineOk_rxHigh (h : s.upc = .rxHigh k) : routineOk s = true ↔ receiveOk 0 s = true ∧ s.sdaDrv = .hiz := by
  simp [routineOk, h]

theorem routineOk_rxLow (h : s.upc = .rxLow k b) : routineOk s = true ↔ receiveOk 0 s = true ∧ s.sdaDrv = .hiz := by
  simp [routineOk, h]

/-- The three positions of the master's own acknowledgement (R147). -/
theorem routineOk_mack (h : s.upc = .mackLow ∨ s.upc = .mackHigh ∨ s.upc = .mackEnd) :
    routineOk s = true ↔ receiveOk 1 s = true := by
  rcases h with h | h | h <;> simp [routineOk, h]

theorem routineOk_stopLow (h : s.upc = .stopLow c) : routineOk s = true ↔ stopOk c s = true := by
  simp [routineOk, h]

theorem routineOk_stopHigh (h : s.upc = .stopHigh c) :
    routineOk s = true ↔ stopOk c s = true ∧ s.sdaDrv = .low := by
  simp [routineOk, h]

end

/-- Where a routine awaits, its command runs with the clock on (R44 (e)) and can end with a timeout (R221). -/
theorem routineOk_awaits {l : Level} (h : routineOk s = true) (hl : s.upc.awaits = some l) :
    s.run = true ∧ s.enabled = true ∧ codeAllowed (Word.op s.cmd) .clockStretchTimeout = true := by
  have running : ∀ {op}, Running op s → codeAllowed op .clockStretchTimeout = true →
      s.run = true ∧ s.enabled = true ∧ codeAllowed (Word.op s.cmd) .clockStretchTimeout = true :=
    fun ⟨hr, he, _, hop, _⟩ hc => ⟨hr, he, hop ▸ hc⟩
  have stop : ∀ {c}, stopOk c s = true →
      s.run = true ∧ s.enabled = true ∧ codeAllowed (Word.op s.cmd) .clockStretchTimeout = true := fun h => by
    obtain ⟨hr, he, -⟩ := stopOk_base h
    exact ⟨hr, he, (stopOk_codeAllowed h).2⟩
  unfold routineOk at h
  cases hu : s.upc <;> simp only [hu, Bool.and_eq_true, and_assoc] at h
  case noRoutine => simp [hu, Upc.awaits] at hl
  case dispatch => simp [hu, Upc.awaits] at hl
  case rxHigh | rxLow => exact running (receiveOk_iff.1 h.1).1 (by decide)
  case mackLow | mackHigh | mackEnd => exact running (receiveOk_iff.1 h).1 (by decide)
  case stopLow => exact stop h
  case stopHigh => exact stop h.1
  all_goals exact running (frameOk_running h.1) (Frame.timeoutAllowed _)

/-- Only a state with no command running is at no routine. -/
theorem routineOk_not_running (h : routineOk s = true) (hrun : s.run = false) : s.upc = .noRoutine := by
  cases hl : s.upc.awaits with
  | some l =>
    have := (routineOk_awaits h hl).1
    simp [hrun] at this
  | none =>
    cases hu : s.upc <;> simp only [hu, Upc.awaits, reduceCtorEq] at hl
    case noRoutine => rfl
    case dispatch =>
      have := ((routineOk_dispatch hu).1 h).1
      simp [hrun] at this

end

/-! What `routineOk` reads. -/

/-- Everything the routine's part of the invariant reads is the same in `s` and `t`. -/
structure SameRoutine (s t : State) : Prop where
  upc     : t.upc = s.upc
  run     : t.run = s.run
  enabled : t.enabled = s.enabled
  cmd     : t.cmd = s.cmd
  state   : t.state = s.state
  mode    : t.mode = s.mode
  sdaDrv  : t.sdaDrv = s.sdaDrv
  i       : t.i = s.i
  xfer    : t.xfer = s.xfer
  att     : t.att = s.att
  nakph   : t.nakph = s.nakph

theorem routineOk_congr {s t : State} (h : SameRoutine s t) : routineOk t = routineOk s := by
  have hleg : t.legal = s.legal := by simp only [State.legal, h.cmd]
  have hcount : t.count = s.count := by simp only [State.count, h.cmd]
  have hent : ∀ f : Frame, f.entered t = f.entered s := fun f => by
    rcases f with _ | _ | (_ | _) | _ <;> simp only [Frame.entered, h.mode, h.state]
  have hframe : ∀ f, frameOk f t = frameOk f s := fun f => by
    rcases f with _ | _ | (_ | _) | _ <;>
      simp only [frameOk, hleg, hcount, h.run, h.enabled, h.cmd, h.state, h.i, h.xfer, h.att, h.nakph]
  have hrecv : ∀ d, receiveOk d t = receiveOk d s := fun d => by
    simp only [receiveOk, hleg, hcount, h.run, h.enabled, h.cmd, h.state, h.i, h.xfer, h.att, h.nakph]
  have hstop : ∀ c, stopOk c t = stopOk c s := fun c => by
    simp only [stopOk, hleg, h.run, h.enabled, h.cmd, h.state, h.xfer, h.att, h.nakph]
  have hrest : resting t = resting s := by simp only [resting, h.state, h.sdaDrv]
  simp only [routineOk, h.upc, hframe, hrecv, hstop, hrest, hent, h.run, h.state, h.sdaDrv]

/-- A step that leaves what the routine reads keeps the invariant when it keeps the rest. -/
theorem MachineInv.update {s t : State} (h : MachineInv s) (hb : BaseInv t)
    (hs : SameRoutine s t := by constructor <;> rfl) : MachineInv t :=
  machineInv_iff.2 ⟨hb, (routineOk_congr hs).trans (machineInv_iff.1 h).2⟩

end Sys2Proof.Machine

/-! One await passed keeps the invariant: first the ends of a frame and of a byte, then the routine as a whole. -/

namespace Sys2Proof.Machine

section
variable {s : State}

/-- A payload byte `j` within the count begins its first attempt (R179). -/
theorem loadPayload_inv {j : Nat} (hb : BaseInv s) (hcmd : Running 4#4 s) (hst : s.state = .payloadPhase)
    (hj : j < s.count) (hx : s.xfer.toNat = j) : MachineInv (loadPayload j s) := by
  have hx' : s.xfer = BitVec.ofNat 9 j := by rw [← hx, BitVec.ofNat_toNat, BitVec.setWidth_eq]
  have hi : (BitVec.ofNat 9 j).toNat < s.count := by rw [← hx', hx]; exact hj
  have hlo : 1#4 ≤ 1#4 := by decide
  have hhi : 1#4 ≤ retryLimit := by decide
  exact machineInv_iff.2 ⟨hb, (routineOk_firstBit rfl).2
    ⟨frameOk_payload.2 ⟨hcmd, hst, hi, hx', hlo, hhi⟩, hst⟩⟩

/-- READ goes on to payload byte `j`, within its count and with SDA released (R180). -/
theorem beginReceive_inv {j : Nat} (hb : BaseInv s) (hsda : s.sdaDrv = .hiz) (hcmd : Running 5#4 s)
    (hatt : s.att = 0#4) (hst : s.state = .payloadPhase) (hcap : s.count ≤ (Word.cap s.cmd).toNat) (hj : j < s.count)
    (hx : s.xfer.toNat = j) : MachineInv (beginReceive j s) := by
  have hi : (BitVec.ofNat 9 j).toNat = j := by rw [← hx, BitVec.ofNat_toNat, BitVec.setWidth_eq]
  have hlt : (BitVec.ofNat 9 j).toNat < s.count := by rw [hi]; exact hj
  exact machineInv_iff.2 ⟨hb, (routineOk_rxHigh rfl).2
    ⟨receiveOk_iff.2 ⟨hcmd, hatt, hst, hlt, hcap, hx.trans hi.symm⟩, hsda⟩⟩

/-- The stop that ends a failed frame, or END's own (R225, R181). -/
theorem stopCondition_inv {c : ResultCode} (hb : BaseInv s) (he : s.enabled = true)
    (h : stopOk c (stopCondition c s) = true) : MachineInv (stopCondition c s) :=
  machineInv_iff.2 ⟨hb.enter he (by simp), h⟩

theorem beginPayloadRead_inv (hb : BaseInv s) (hf : frameOk (.restartAddr .read) s = true) (hsda : s.sdaDrv = .hiz) :
    MachineInv (beginPayloadRead s) := by
  obtain ⟨hcmd, hx, hatt, hcap⟩ := frameOk_restartRead.1 hf
  have ⟨_, he, _, hop, _⟩ := hcmd
  have hb' : BaseInv { s with state := .payloadPhase } := hb.enter he (by simp)
  unfold beginPayloadRead
  simp only
  split
  · rename_i hc
    exact beginReceive_inv hb' hsda hcmd hatt rfl hcap hc (by simp [hx])
  · exact complete_inv hb' (by simp [resting, hsda, TxState.resting]) (by simp [hop, codeAllowed])

theorem frameAcked_inv {f : Frame} (hb : BaseInv s) (hf : frameOk f s = true) (hst : s.state = f.entered s)
    (hsda : s.sdaDrv = .hiz) : MachineInv (frameAcked f s) := by
  have hcmd := frameOk_running hf
  have ⟨_, _, _, hop, _⟩ := hcmd
  rcases f with _ | _ | (_ | _) | _ <;> simp only [frameAcked]
  case beginAddr => exact machineInv_iff.2 ⟨hb, (routineOk_firstBit (f := .beginReg) rfl).2 ⟨hf, hst⟩⟩
  case beginReg =>
    exact complete_inv hb (by simp [resting, hst, hsda, Frame.entered, TxState.resting]) (by rw [hop]; decide)
  case restartAddr.rstart =>
    refine complete_inv hb ?_ (by rw [hop]; decide)
    rw [resting, hst, hsda]
    cases hm : s.mode <;> simp [Frame.entered, hm, TxState.resting]
  case restartAddr.read => exact beginPayloadRead_inv hb hf hsda
  case payload =>
    obtain ⟨-, hst', hi, -⟩ := frameOk_payload.1 hf
    split
    · rename_i hc
      refine loadPayload_inv hb hcmd hst' hc ?_
      have hcount : s.count < 2 ^ 9 := (Word.count s.cmd).isLt
      rw [BitVec.toNat_add, BitVec.toNat_ofNat]
      omega
    · exact complete_inv hb (by simp [resting, hst', hsda, TxState.resting]) (by simp [hop, Frame.op, codeAllowed])

/-- An address or register frame that fails begins a stop with NoAck and its command's phase code (R184, R225). -/
theorem noAck_inv {f : Frame} {ph : BitVec 2} (hb : BaseInv s) (hf : frameOk f s = true) (hne : f ≠ .payload)
    (hph : f.op = 2#4 ∧ (ph = 1#2 ∨ ph = 2#2) ∨ (f.op = 3#4 ∨ f.op = 5#4) ∧ ph = 3#2) :
    MachineInv (fail .noAck { s with nakph := ph }) := by
  obtain ⟨hrun, he, hleg, hop, -⟩ := frameOk_running hf
  obtain ⟨hx, hatt⟩ := frameOk_counters hf hne
  rw [← hop] at hph
  exact stopCondition_inv hb he (stopOk_noAck.2 ⟨⟨hrun, he, hleg, rfl⟩, hx, hatt, hph⟩)

theorem frameNacked_inv {f : Frame} (hb : BaseInv s) (hf : frameOk f s = true) : MachineInv (frameNacked f s) := by
  rcases f with _ | _ | r | _ <;> simp only [frameNacked]
  case beginAddr => exact noAck_inv hb hf (by simp) (.inl ⟨rfl, .inl rfl⟩)
  case beginReg => exact noAck_inv hb hf (by simp) (.inl ⟨rfl, .inr rfl⟩)
  case restartAddr => exact noAck_inv hb hf (by simp) (.inr ⟨by cases r <;> simp [Frame.op], rfl⟩)
  case payload =>
    obtain ⟨hcmd, hst, hi, hxi, hlo, hhi⟩ := frameOk_payload.1 hf
    split
    · rename_i hatt
      have ⟨hrun, he, hleg, hop, hnak⟩ := hcmd
      exact stopCondition_inv hb he (stopOk_maxRetries.2 ⟨⟨hrun, he, hleg, rfl⟩, hop, hatt, hnak⟩)
    · rename_i hatt
      have hatt' : 1#4 ≤ s.att + 1#4 ∧ s.att + 1#4 ≤ retryLimit := by unfold retryLimit at *; bv_omega
      exact machineInv_iff.2 ⟨hb, (routineOk_firstBit rfl).2
        ⟨frameOk_payload.2 ⟨hcmd, hst, hi, hxi, hatt'⟩, hst⟩⟩

theorem receivedBit_inv {k : Fin 8} {b : Bool} (hb : BaseInv s) (hr : receiveOk 0 s = true) (hsda : s.sdaDrv = .hiz) :
    MachineInv (receivedBit k b s) := by
  unfold receivedBit
  simp only
  split
  · obtain ⟨hcmd, hatt, hst, hi, hcap, -⟩ := receiveOk_iff.1 hr
    have ⟨_, _, hleg, hop, _⟩ := hcmd
    have hbuf : s.i.toNat < bufSize := Nat.lt_of_lt_of_le hi (count_le_of_legal_read hleg hop)
    have hx : (s.i + 1#9).toNat = s.i.toNat + 1 := by unfold bufSize at hbuf; bv_omega
    exact machineInv_iff.2 ⟨hb.writeRx hbuf _, (routineOk_mack (.inl rfl)).2
      (receiveOk_iff.2 ⟨hcmd, hatt, hst, hi, hcap, hx⟩)⟩
  · exact machineInv_iff.2 ⟨hb, (routineOk_rxHigh rfl).2 ⟨hr, hsda⟩⟩

/-- READ's next byte, or its end, after the master's acknowledgement (R180). -/
theorem mackEnd_inv (hb : BaseInv s) (hr : receiveOk 1 s = true) (hu : s.upc = .mackEnd) :
    MachineInv (passAwait s) := by
  obtain ⟨hcmd, hatt, hst, -, hcap, hx⟩ := receiveOk_iff.1 hr
  have ⟨_, he, _, hop, _⟩ := hcmd
  have hb' : BaseInv (driveSda .hiz s) := hb.drive he .hiz
  simp only [passAwait, hu]
  split
  · rename_i hc
    exact beginReceive_inv hb' rfl hcmd hatt hst hcap hc hx
  · exact complete_inv hb' (by simp [resting, hst, TxState.resting]) (by simp [hop, codeAllowed])

/-- Entering its own state does not change what a running frame must meet. -/
theorem frameOk_enter (f : Frame) : frameOk f { s with state := f.entered s } = frameOk f s := by
  rcases f with _ | _ | (_ | _) | _ <;> rfl

/-- A state that a frame has entered stays the one it enters: it depends on `S.mode` alone. -/
theorem Frame.state_eq_entered {f : Frame} {t : State} (hst : t.state = f.entered s) (hm : t.mode = s.mode) :
    t.state = f.entered t := by
  rcases f with _ | _ | (_ | _) | _ <;> simp_all [Frame.entered]

theorem nextBit_ne_seven (k : Fin 8) : nextBit k ≠ 7 := by
  intro h
  have := congrArg Fin.val h
  simp [nextBit] at this
  omega

/-- A bit is driven: with its first bit a frame enters its state (R141, R170). -/
theorem bitLow_inv {f : Frame} {k : Fin 8} (hb : BaseInv s) (hf : frameOk f s = true)
    (hst : s.state = if k = 7 then f.before else f.entered s) (hu : s.upc = .bitLow f k) :
    MachineInv (passAwait s) := by
  have he : s.enabled = true := frameOk_enabled hf
  have hnew : (if k = 7 then f.entered s else s.state) = f.entered s := by
    split
    · rfl
    · rename_i hk; rw [hst, if_neg hk]
  simp only [passAwait, hu, hnew]
  exact machineInv_iff.2 ⟨(hb.enter he (Frame.entered_ne_idle hf)).drive he _,
    (routineOk_bitHigh rfl).2 ⟨(frameOk_enter f).trans hf, Frame.state_eq_entered rfl rfl⟩⟩

/-- The routine's part after any await keeps the invariant. -/
theorem passAwait_inv (h : MachineInv s) : MachineInv (passAwait s) := by
  obtain ⟨hb, hr⟩ := machineInv_iff.1 h
  cases hu : s.upc with
  | noRoutine => simpa only [passAwait, hu] using h
  | dispatch => simpa only [passAwait, hu] using h
  | bitLow f k =>
    obtain ⟨hf, hst⟩ := (routineOk_bitLow hu).1 hr
    exact bitLow_inv hb hf hst hu
  | bitHigh f k =>
    obtain ⟨hf, hst⟩ := (routineOk_bitHigh hu).1 hr
    simp only [passAwait, hu]
    refine machineInv_iff.2 ⟨hb, ?_⟩
    split
    · exact (routineOk_ackLow rfl).2 ⟨hf, Frame.state_eq_entered hst rfl⟩
    · exact (routineOk_bitLow rfl).2 ⟨hf, by rw [if_neg (nextBit_ne_seven k)]; exact Frame.state_eq_entered hst rfl⟩
  | ackLow f =>
    obtain ⟨hf, hst⟩ := (routineOk_ackLow hu).1 hr
    simp only [passAwait, hu]
    exact machineInv_iff.2 ⟨hb.drive (frameOk_enabled hf) .hiz,
      (routineOk_ackHigh rfl).2 ⟨hf, Frame.state_eq_entered hst rfl, rfl⟩⟩
  | ackHigh f =>
    obtain ⟨hf, hst, -⟩ := (routineOk_ackHigh hu).1 hr
    simp only [passAwait, hu]
    exact machineInv_iff.2 ⟨hb.drive (frameOk_enabled hf) .hiz,
      (routineOk_ackEnd rfl).2 ⟨hf, Frame.state_eq_entered hst rfl, rfl⟩⟩
  | ackEnd f =>
    obtain ⟨hf, hst, hsda⟩ := (routineOk_ackEnd hu).1 hr
    simp only [passAwait, hu]
    split
    · exact frameAcked_inv hb hf hst hsda
    · exact frameNacked_inv hb hf
  | rsLow r =>
    obtain ⟨hf, hst⟩ := (routineOk_rsLow hu).1 hr
    simp only [passAwait, hu]
    exact machineInv_iff.2 ⟨hb.drive (frameOk_enabled hf) .hiz, (routineOk_rsHigh rfl).2 ⟨hf, hst, rfl⟩⟩
  | rsHigh r =>
    obtain ⟨hf, hst, -⟩ := (routineOk_rsHigh hu).1 hr
    simp only [passAwait, hu]
    exact machineInv_iff.2 ⟨hb.drive (frameOk_enabled hf) .low, (routineOk_firstBit rfl).2 ⟨hf, hst⟩⟩
  | rxHigh k =>
    obtain ⟨hr, -⟩ := (routineOk_rxHigh hu).1 hr
    simp only [passAwait, hu]
    exact machineInv_iff.2 ⟨hb.drive (receiveOk_enabled hr) .hiz, (routineOk_rxLow rfl).2 ⟨hr, rfl⟩⟩
  | rxLow k b =>
    obtain ⟨hr, hsda⟩ := (routineOk_rxLow hu).1 hr
    simp only [passAwait, hu]
    exact receivedBit_inv hb hr hsda
  | mackLow =>
    have hr := (routineOk_mack (.inl hu)).1 hr
    simp only [passAwait, hu]
    exact machineInv_iff.2 ⟨hb.drive (receiveOk_enabled hr) _, (routineOk_mack (.inr (.inl rfl))).2 hr⟩
  | mackHigh =>
    have hr := (routineOk_mack (.inr (.inl hu))).1 hr
    simp only [passAwait, hu]
    exact machineInv_iff.2 ⟨hb, (routineOk_mack (.inr (.inr rfl))).2 hr⟩
  | mackEnd => exact mackEnd_inv hb ((routineOk_mack (.inr (.inr hu))).1 hr) hu
  | stopLow c =>
    have hs := (routineOk_stopLow hu).1 hr
    simp only [passAwait, hu]
    exact machineInv_iff.2 ⟨hb.drive (stopOk_enabled hs) .low, (routineOk_stopHigh rfl).2 ⟨hs, rfl⟩⟩
  | stopHigh c =>
    obtain ⟨hs, -⟩ := (routineOk_stopHigh hu).1 hr
    simp only [passAwait, hu]
    exact complete_inv hb.close rfl (stopOk_codeAllowed hs).1

theorem advance_inv (n : Nat) (h : MachineInv s) : MachineInv (advance n s) := by
  induction n generalizing s with
  | zero => exact h
  | succ n ih =>
    unfold advance
    split
    · exact ih (passAwait_inv h)
    · exact h

theorem runRoutine_inv (h : MachineInv s) : MachineInv (runRoutine s) := advance_inv 4 h

end

/-! The dispatch step keeps the invariant, one command at a time (R172, R176–R181). -/

/-- A command's dispatch part begins between commands, with its counters cleared. -/
structure DispatchOk (i : Instr) (s : State) : Prop where
  base    : BaseInv s
  run     : s.run = true
  resting : resting s = true
  decoded : decode s.cmd = .ok i
  xfer    : s.xfer = 0#9
  att     : s.att = 0#4
  nakph   : s.nakph = 0#2

section
variable {s t : State}

/-- In a transaction the command runs with the clock on. -/
theorem DispatchOk.running {i : Instr} {op : BitVec 4} (h : DispatchOk i s) (hst : s.state ≠ .idle)
    (hop : Word.op s.cmd = op) : Running op s :=
  ⟨h.run, h.base.enabled hst, legal_iff.2 ⟨i, h.decoded⟩, hop, h.nakph⟩

theorem divisor_bounds {p : Params} {f : BitVec 24} {d : Nat} (h : divisor p f = some d) :
    p.divMin ≤ d ∧ d ≤ p.divMax := by
  unfold divisor at h
  simp only at h
  split_ifs at h with hf hd
  cases h
  omega

end
end Sys2Proof.Machine

/-! Every move keeps the invariant: the Sequencer's dispatch of each command, the tick, the host, and reset. -/

namespace Sys2Proof.Machine

section
variable {s t : State}

/-- The configuration INIT installs at Idle, with the clock off (R176, R102). -/
theorem BaseInv.configure (hb : BaseInv s) (hidle : s.state = .idle) {cf : Bool} {dv : BitVec 32}
    (hno : cf = false → dv = 0#32) (hyes : cf = true → s.params.divMin ≤ dv.toNat ∧ dv.toNat ≤ s.params.divMax) :
    BaseInv { disableClock (driveSda .hiz s) with div := dv, configured := cf } := by
  obtain ⟨⟨hwf, htol, -⟩, -, hreset, hrest⟩ := hb
  exact ⟨⟨hwf, htol, hno, hyes⟩, by simp [ClockOk, hidle], fun h => ⟨(hreset h).1, rfl⟩, hrest⟩

theorem execInit_inv {f : BitVec 24} (h : DispatchOk (.init f) s) (ht : execInit f s = .next t) : MachineInv t := by
  obtain ⟨hop, -⟩ := carries_of_decode h.decoded
  have hcode : ∀ c ∈ [ResultCode.ok, .busBusy, .unsupportedFrequency], codeAllowed (Word.op s.cmd) c = true := by
    rw [hop]; decide
  rcases execInit_cases ht with ⟨-, rfl⟩ | ⟨hidle, d, hd, rfl⟩ | ⟨hidle, -, rfl⟩
  · exact complete_inv h.base h.resting (hcode _ (by simp))
  · have hbounds := divisor_bounds hd
    obtain ⟨⟨⟨-, -, -, hmax⟩, -⟩, -⟩ := h.base
    have hdn : (BitVec.ofNat 32 d).toNat = d := Nat.mod_eq_of_lt (Nat.lt_of_le_of_lt hbounds.2 hmax)
    exact complete_inv (h.base.configure hidle (by simp) (fun _ => by rw [hdn]; exact hbounds))
      (by simp [Machine.resting, hidle, TxState.resting]) (hcode _ (by simp))
  · exact complete_inv (h.base.configure hidle (by simp) (by simp))
      (by simp [Machine.resting, hidle, TxState.resting]) (hcode _ (by simp))

/-- The start condition at Idle turns the clock on at phase 1 with SCL released (R173, R44 (b)). -/
theorem BaseInv.start (hb : BaseInv s) (hrun : s.run = true) (hconf : s.configured = true) (hidle : s.state = .idle) :
    BaseInv (startCondition s) := by
  obtain ⟨hcfg, ⟨hon, -, hoff⟩, hreset, hrest⟩ := hb
  have he : s.enabled = false := by simpa [hidle] using hon
  obtain ⟨-, hscl, -⟩ := hoff he
  exact ⟨hcfg, ⟨by simp, fun _ => ⟨rfl, hscl, hconf, ConfigOk.div_pos hcfg hconf⟩, by simp⟩,
    fun h => absurd (hreset h).1 (by simp [hrun]), hrest⟩

theorem execBegin_inv {sa : BitVec 7} {ra : Byte} {md : Mode} (h : DispatchOk (.beginTx sa ra md) s)
    (ht : execBegin sa ra md s = .next t) : MachineInv t := by
  obtain ⟨hop, -⟩ := carries_of_decode h.decoded
  rcases execBegin_cases ht with ⟨-, rfl⟩ | ⟨-, -, rfl⟩ | ⟨hconf, hidle, rfl⟩
  · exact complete_inv h.base h.resting (by rw [hop]; decide)
  · exact complete_inv h.base h.resting (by rw [hop]; decide)
  · have hb : BaseInv { s with sa := sa, ra := ra, mode := md } := h.base
    exact machineInv_iff.2 ⟨hb.start h.run hconf hidle, (routineOk_firstBit (f := .beginAddr) rfl).2
      ⟨frameOk_beginAddr.2 ⟨⟨h.run, rfl, legal_iff.2 ⟨_, h.decoded⟩, hop, h.nakph⟩, h.xfer, h.att⟩, rfl⟩⟩

/-- A repeated start of a READ or RSTART inside a transaction (R174). -/
theorem restartCondition_inv {r : Restart} (hb : BaseInv s) (hst : s.state ≠ .idle)
    (hf : frameOk (.restartAddr r) (restartCondition r s) = true) : MachineInv (restartCondition r s) :=
  machineInv_iff.2 ⟨hb.enter (hb.enabled hst) (by simp), (routineOk_rsLow rfl).2 ⟨hf, rfl⟩⟩

theorem execRstart_inv {sa : BitVec 7} {md : Mode} (h : DispatchOk (.rstart sa md) s)
    (ht : execRstart sa md s = .next t) : MachineInv t := by
  obtain ⟨hop, -⟩ := carries_of_decode h.decoded
  rcases execRstart_cases ht with ⟨-, rfl⟩ | ⟨hst, rfl⟩
  · exact complete_inv h.base h.resting (by rw [hop]; decide)
  · have hb : BaseInv { s with sa := sa, mode := md } := h.base
    exact runRoutine_inv (restartCondition_inv hb hst (frameOk_restartRstart.2 ⟨h.running hst hop, h.xfer, h.att⟩))

theorem execWrite_inv {n : BitVec 9} (h : DispatchOk (.write n) s) (ht : execWrite n s = .next t) : MachineInv t := by
  obtain ⟨hop, rfl, -⟩ := carries_of_decode h.decoded
  have hb : s.state ≠ .idle → BaseInv { s with state := .payloadPhase } := fun hst =>
    h.base.enter (h.base.enabled hst) (by simp)
  rcases execWrite_cases ht with ⟨-, rfl⟩ | ⟨hst, -, rfl⟩ | ⟨hst, hn, rfl⟩
  · exact complete_inv h.base h.resting (by rw [hop]; decide)
  · refine complete_inv (hb hst) ?_ (by simp [hop, codeAllowed])
    have := h.resting
    simp_all [Machine.resting, TxState.resting]
  · have hpos : 0 < s.count := Nat.pos_of_ne_zero fun h0 => hn (BitVec.eq_of_toNat_eq h0)
    exact runRoutine_inv (loadPayload_inv (hb hst) (h.running hst hop) rfl hpos (by simp [h.xfer]))

theorem execRead_inv {n cap : BitVec 9} (h : DispatchOk (.read n cap) s) (ht : execRead n cap s = .next t) :
    MachineInv t := by
  obtain ⟨hop, rfl, rfl, -⟩ := carries_of_decode h.decoded
  rcases execRead_cases ht with ⟨-, rfl⟩ | ⟨-, -, rfl⟩ | ⟨hst, hcap, rfl⟩
  · exact complete_inv h.base h.resting (by rw [hop]; decide)
  · exact complete_inv h.base h.resting (by rw [hop]; decide)
  · have hb : BaseInv { s with mode := .read } := h.base
    have hcap' : s.count ≤ (Word.cap s.cmd).toNat := Nat.le_of_not_lt hcap
    exact runRoutine_inv (restartCondition_inv hb hst (frameOk_restartRead.2
      ⟨h.running hst hop, h.xfer, h.att, hcap'⟩))

theorem execEnd_inv (h : DispatchOk .endTx s) (ht : execEnd s = .next t) : MachineInv t := by
  have hop := carries_of_decode h.decoded
  simp only [Carries] at hop
  rcases execEnd_cases ht with ⟨-, rfl⟩ | ⟨hst, rfl⟩
  · exact complete_inv h.base h.resting (by rw [hop]; decide)
  · have he := h.base.enabled hst
    exact runRoutine_inv (stopCondition_inv h.base he (stopOk_ok.2
      ⟨⟨h.run, he, legal_iff.2 ⟨_, h.decoded⟩, rfl⟩, hop, h.nakph, h.xfer, h.att⟩))

theorem exec_inv {i : Instr} (h : DispatchOk i s) (ht : exec i s = .next t) : MachineInv t := by
  cases i with
  | init f => exact execInit_inv h ht
  | beginTx sa ra md => exact execBegin_inv h ht
  | rstart sa md => exact execRstart_inv h ht
  | write n => exact execWrite_inv h ht
  | read n cap => exact execRead_inv h ht
  | endTx => exact execEnd_inv h ht

/-- The Sequencer step keeps the invariant (R22). -/
theorem sequencerStep_inv (h : MachineInv s) (ht : sequencerStep s = .next t) : MachineInv t := by
  obtain ⟨hb, hr⟩ := machineInv_iff.1 h
  rcases sequencerStep_cases ht with ⟨hu, -, rfl⟩ | ⟨hu, i, hi, hx⟩ | ⟨-, rfl | ⟨-, rfl⟩⟩ | ⟨-, ⟨l, hl⟩, rfl⟩
  · exact complete_inv hb ((routineOk_dispatch hu).1 hr).2 rfl
  · obtain ⟨hrun, hrest⟩ := (routineOk_dispatch hu).1 hr
    exact exec_inv (s := clearCounters s) ⟨hb, hrun, hrest, hi, rfl, rfl, rfl⟩ hx
  · exact passAwait_inv h
  · exact passAwait_inv (passAwait_inv h)
  · exact forcedRelease_inv hb (routineOk_awaits hr hl).2.2

/-! The other moves (R20). -/

theorem tickExpiry_inv (h : MachineInv s) (he : s.enabled = true) : MachineInv (tickExpiry s) :=
  h.update (h.base.tickExpiry he) (by rw [tickExpiry_eq]; constructor <;> rfl)

theorem blockStep_inv (h : MachineInv s) (ht : blockStep s = .next t) : MachineInv t := by
  rcases blockStep_cases ht with ⟨-, rfl⟩ | ⟨-, -, hs⟩ | ⟨-, -, he, rfl⟩ | ⟨-, -, -, rfl⟩
  · exact h
  · exact sequencerStep_inv h hs
  · exact tickExpiry_inv h he
  · exact h

theorem clkStep_inv (h : MachineInv s) : MachineInv (clkStep s) := by
  rcases clkStep_cases s with hc | ⟨-, he, hlt, hc⟩ | ⟨-, he, -, hc⟩ <;> rw [hc]
  · exact h
  · obtain ⟨hcfg, ⟨hidle, hon, -⟩, hrest⟩ := h.base
    obtain ⟨hscla, hscl, hconf, -⟩ := hon he
    have hcnt : s.tcnt + 1#32 < s.div := by bv_omega
    exact h.update ⟨hcfg, ⟨hidle, fun _ => ⟨hscla, hscl, hconf, hcnt⟩, fun h => by simp [he] at h⟩, hrest⟩
  · exact tickExpiry_inv h he

/-- A write of CMD between commands starts one in the state they rest in (R171). -/
theorem acceptedCommand_inv {v : Word} (h : MachineInv s) (hn : s.rstN = true) (hrun : s.run = false) :
    MachineInv { s with cmd := v, run := true, upc := .dispatch } := by
  obtain ⟨⟨hcfg, hclk, -, hrest⟩, hr⟩ := machineInv_iff.1 h
  have hu := routineOk_not_running hr hrun
  exact machineInv_iff.2 ⟨⟨hcfg, hclk, fun h => by simp [hn] at h, hrest⟩,
    (routineOk_dispatch rfl).2 ⟨rfl, ((routineOk_noRoutine hu).1 hr).2⟩⟩

/-! Host writes (R61, R65). -/

theorem legalTolim_ne_zero (v : Word) : legalTolim v ≠ 0#16 := by
  unfold legalTolim
  split
  · decide
  · assumption

/-- The word of the register space at an offset (R61, R62). -/
theorem word_toNat (off : BitVec 12) : (off.extractLsb' 2 10).toNat = off.toNat / 4 := by
  rw [BitVec.extractLsb'_toNat, Nat.shiftRight_eq_div_pow]
  omega

theorem hostReg_txbuf_iff {off : BitVec 12} {i : Nat} :
    hostReg off = .txbuf i ↔ off.toNat / 4 = 0x100 + i ∧ i < 0x100 := by
  rw [hostReg, word_toNat]
  generalize off.toNat / 4 = w
  split_ifs <;> simp <;> omega

theorem hostReg_cmd_iff {off : BitVec 12} : hostReg off = .cmd ↔ off.toNat / 4 = 0 := by
  rw [hostReg, word_toNat]
  split_ifs <;> simp <;> omega

theorem hostReg_status_iff {off : BitVec 12} : hostReg off = .status ↔ off.toNat / 4 = 1 := by
  rw [hostReg, word_toNat]
  split_ifs <;> simp <;> omega

theorem hostReg_tolim_iff {off : BitVec 12} : hostReg off = .tolim ↔ off.toNat / 4 = 4 := by
  rw [hostReg, word_toNat]
  split_ifs <;> simp <;> omega

/-- What a register write can be (R65, R171); at a read-only or reserved word it is nothing. -/
theorem regWrite_cases (v : Word) (s : State) (r : HostReg) :
    regWrite v s r = s ∨
    (r = .cmd ∧ s.run = true ∧ regWrite v s r = { s with ovr := true }) ∨
    (r = .cmd ∧ s.run = false ∧ regWrite v s r = { s with cmd := v, run := true, upc := .dispatch }) ∨
    (r = .status ∧ v.getLsbD 11 = true ∧ regWrite v s r = { s with ovr := false }) ∨
    (r = .tolim ∧ regWrite v s r = { s with tolim := legalTolim v }) ∨
    (∃ i, r = .txbuf i ∧ regWrite v s r = writeTx i (v.extractLsb' 0 8) s) := by
  cases r with
  | cmd => cases hr : s.run <;> simp [regWrite, acceptCommand, hr]
  | status =>
    by_cases hv : v.getLsbD 11 = true
    · exact .inr (.inr (.inr (.inl ⟨rfl, hv, if_pos hv⟩)))
    · exact .inl (if_neg hv)
  | tolim => simp [regWrite]
  | txbuf i => simp [regWrite]
  | _ => exact .inl rfl

theorem hostStore_inv {off : BitVec 12} {v : Word} (h : MachineInv s) : MachineInv (hostStore off v s) := by
  have hb := h.base
  unfold hostStore
  split
  case isFalse => exact h
  rename_i hn
  rcases regWrite_cases v s (hostReg off) with
    hw | ⟨-, -, hw⟩ | ⟨-, hrun, hw⟩ | ⟨-, -, hw⟩ | ⟨-, hw⟩ | ⟨i, hi, hw⟩ <;> rw [hw]
  · exact h
  · exact h.update hb
  · exact acceptedCommand_inv h hn hrun
  · exact h.update hb
  · obtain ⟨⟨hwf, -, hdiv⟩, hrest⟩ := hb
    exact h.update ⟨⟨hwf, legalTolim_ne_zero v, hdiv⟩, hrest⟩
  · exact h.update (hb.writeTx (hostReg_txbuf_iff.1 hi).2 _)

theorem pollOnce_inv (h : MachineInv s) : MachineInv (pollOnce s) := by
  unfold pollOnce
  simp only
  split <;> exact h.update h.base

/-- Reset meets the invariant whatever came before, the parameters being within R7's bounds (R250, R54). -/
theorem resetBlock_inv (h : s.params.wf) : MachineInv (resetBlock s) :=
  ⟨⟨h, by simp [resetBlock, tolimReset], fun _ => rfl, by simp [resetBlock]⟩, by simp [ClockOk, resetBlock],
    fun _ => ⟨rfl, rfl⟩, ⟨Memory.nil_wf, Memory.nil_wf⟩, rfl, rfl⟩

theorem doMove_inv {m : Move} (h : MachineInv s) (ht : doMove s m = .next t) : MachineInv t := by
  cases m with
  | block => exact blockStep_inv h ht
  | clk => cases ht; exact clkStep_inv h
  | hostRead off => cases ht; exact h.update h.base
  | hostWrite off v => cases ht; exact hostStore_inv h
  | poll => cases ht; exact pollOnce_inv h
  | env sda scl => cases ht; exact h.update h.base
  | rst level =>
    cases ht
    cases level with
    | true =>
      obtain ⟨hcfg, hclk, -, hrest⟩ := h.base
      exact h.update ⟨hcfg, hclk, fun h => by simp [resetStep] at h, hrest⟩
    | false =>
      obtain ⟨⟨hwf, -⟩, -⟩ := h
      exact resetBlock_inv hwf

/-- One step keeps the invariant: the agenda is no part of it. -/
theorem step_inv (h : MachineInv s) (ht : step s = .next t) : MachineInv t := by
  rcases step_cases s with ⟨-, hs⟩ | ⟨m, ms, -, hs⟩
  · exact blockStep_inv h (hs ▸ ht)
  · have h' : MachineInv { s with agenda := ms } := h.update h.base
    exact doMove_inv h' (hs ▸ ht)

end
end Sys2Proof.Machine

/-! The whole-machine statements: reset meets the invariant, every step keeps it, and every run stays inside it. -/

namespace Sys2Proof.Machine

/-- Settles O51: each move keeps the invariant (`doMove_inv`), the Sequencer's by the case of its routine. -/
theorem stepKeepsInv : Obligations.StepKeepsInv := fun _ _ => step_inv

/-- The parameters after reset are within R7's bounds. -/
theorem configParams_wf : Config.params.wf := by
  have hmin := Config.divMinRaw.isLt
  have hmax := Config.divMaxRaw.isLt
  simp only [Params.wf, Config.params]
  omega

/-- Settles O50: every register at its reset value, the parameters within their bounds by construction. -/
theorem invHoldsAtReset : Obligations.InvHoldsAtReset := fun _ =>
  ⟨⟨configParams_wf, by simp [State.reset], fun _ => rfl, by simp [State.reset]⟩, by simp [ClockOk, State.reset],
    fun _ => ⟨rfl, rfl⟩, ⟨Memory.nil_wf, Memory.nil_wf⟩, rfl, rfl⟩

/-- What holds of a state and is kept by every step holds along every run. -/
theorem runsTo_inv {k : Nat} {s t : State} (h : MachineInv s) (hr : runsTo k s t) : MachineInv t := by
  induction k generalizing s with
  | zero => exact runsTo_zero.1 hr ▸ h
  | succ k ih =>
    obtain ⟨u, hu, hr⟩ := runsTo_succ.1 hr
    exact ih (step_inv h hu) hr

/-- Settles O53: R44's clauses are parts of the invariant, which every run from reset keeps. -/
theorem clockAndLineInvariants : Obligations.ClockAndLineInvariants := by
  unfold Obligations.ClockAndLineInvariants
  intro a k t hr
  obtain ⟨⟨-, ⟨hidle, hon, hoff⟩, -⟩, hrout⟩ := machineInv_iff.1 (runsTo_inv (invHoldsAtReset a) hr)
  have hoff' : t.state = .idle ↔ t.enabled = false := by
    rw [← Bool.not_eq_true, hidle, not_not]
  refine ⟨hoff', fun he => ?_, fun he => ?_, fun hst _ => ?_, fun l hl => (routineOk_awaits hrout hl).2.1⟩
  · obtain ⟨hscla, hscl, -⟩ := hon he
    exact ⟨hscla, hscl⟩
  · obtain ⟨hscla, hscl, -⟩ := hoff he
    exact ⟨hscl, hscla⟩
  · obtain ⟨-, -, -, hsda⟩ := hoff (hoff'.1 hst)
    cases hd : t.sdaDrv with
    | hiz => exact .inl rfl
    | high => exact .inr rfl
    | low => exact absurd hd hsda

end Sys2Proof.Machine

/-! The state's words and values, one move at a time (10_state.md). -/

namespace Sys2Proof.Machine

/-- The next move, taken in the state without it on the agenda. -/
theorem step_of_nextMove {s s' : State} {m : Move} (h : nextMove s = (m, s')) :
    step s = doMove s' m ∧ ∃ a, s' = { s with agenda := a } := by
  refine ⟨by rw [step, h], ?_⟩
  unfold nextMove at h
  split at h <;> cases h
  · exact ⟨s.agenda, rfl⟩
  · exact ⟨_, rfl⟩

/-! The words the host reads (R46, R51, R53). -/

/-- A field put at bit `lo` of a word occupies the bits from `lo` on. -/
theorem getElem_fieldAt {n : Nat} (x : BitVec n) (lo i : Nat) (hi : i < 32) :
    (fieldAt x lo)[i] = (decide (lo ≤ i) && x.getLsbD (i - lo)) := by
  simp only [fieldAt, BitVec.getElem_shiftLeft, BitVec.getElem_setWidth]
  by_cases hl : i < lo
  · simp [hl]
  · simp [hl, Nat.le_of_not_lt hl]

/-- STATUS has no bit above its fields (R46). -/
theorem toNat_statusWord_lt (s : State) : s.statusWord.toNat < 2 ^ 15 := by
  simp only [State.statusWord, bitAt, BitVec.toNat_or]
  repeat' apply Nat.or_lt_two_pow
  all_goals rw [toNat_fieldAt _ (by decide)]; exact toNat_mul_two_pow_lt _ (by decide)

/-- The state field of STATUS (R46). -/
theorem statusWord_state (s : State) : s.statusWord.extractLsb' 8 3 = s.state.code := by
  ext i hi
  interval_cases i <;> simp [State.statusWord, bitAt, getElem_fieldAt]

/-- The SDA drive field of STATUS (R46). -/
theorem statusWord_sdaDrv (s : State) : s.statusWord.extractLsb' 13 2 = s.sdaDrv.code := by
  ext i hi
  interval_cases i <;> simp [State.statusWord, bitAt, getElem_fieldAt]

/-- Settles O17: each field is read off its own bits, the others having none there. -/
theorem statusFields : Obligations.StatusFields := by
  refine ⟨fun s => ?_, fun s hs => ?_, rfl, rfl, rfl, rfl, rfl, rfl, rfl, rfl, rfl, rfl, rfl⟩
  · refine ⟨?_, ?_, ?_, ?_, ?_, ?_, ?_, ?_, statusWord_state s, ?_, ?_, statusWord_sdaDrv s, toNat_statusWord_lt s⟩ <;>
      simp [State.statusWord, bitAt, getElem_fieldAt]
  · subst hs; rfl

/-- Settles O1: `State.reset` is the table's row by row, and an empty list holds no entry. -/
theorem resetValues : Obligations.ResetValues := by
  unfold Obligations.ResetValues
  simp [State.reset, Memory.read]

/-- Settles O18: the layouts are sums, since each field lies above the ones before it. -/
theorem resultAndXactFields : Obligations.ResultAndXactFields := by
  refine ⟨toNat_resultWord, fun s => ?_, rfl⟩
  have h0 : (fieldAt s.sa 0).toNat = s.sa.toNat := by rw [toNat_fieldAt _ (by decide), Nat.pow_zero, Nat.mul_one]
  have h1 := toNat_or_fieldAt (w := fieldAt s.sa 0) (x := s.mode.bit) (lo := 7) (by omega) (by decide)
  have h2 := toNat_or_fieldAt (w := _) (x := s.ra) (lo := 8) (by rw [h1]; omega) (by decide)
  rw [State.xactWord, h2, h1, h0]
  cases s.mode <;> simp [Mode.bit]

/-- With neither a Sequencer nor a Tick step enabled the block does nothing (R237). -/
theorem blockStep_stutter {s : State} (hr : s.rstN = true) (hq : s.sequencerEnabled = false) (he : s.enabled = false) :
    blockStep s = .next s := by simp [blockStep, hr, hq, he]

/-- Settles O38: `blockStep` tries the Sequencer, then the tick (R29). -/
theorem sequencerBeforeTick : Obligations.SequencerBeforeTick := by
  unfold Obligations.SequencerBeforeTick
  intro s s' hm hr
  obtain ⟨hs, a, rfl⟩ := step_of_nextMove hm
  rw [hs]
  exact ⟨fun hq => blockStep_sequencer hr hq, fun hq he => blockStep_tick hr hq he,
    fun hq he => blockStep_stutter hr hq he⟩

/-- Settles O16: the TXBUF window's word `i` is entry `i`, and a write of the list is read back (R52). -/
theorem txBufferReadsBack : Obligations.TxBufferReadsBack := by
  unfold Obligations.TxBufferReadsBack
  intro s s' t i v hr hi hm ht
  obtain ⟨hs, a, rfl⟩ := step_of_nextMove hm
  have hoff : hostReg (BitVec.ofNat 12 (0x400 + 4 * i)) = .txbuf i :=
    hostReg_txbuf_iff.2 ⟨by rw [BitVec.toNat_ofNat]; omega, hi⟩
  rw [hs, doMove, hostStore, if_pos hr, hoff] at ht
  cases ht
  refine ⟨?_, fun j hj => readTx_writeTx_other _ hj _, fun j => rfl⟩
  rw [regWrite, readTx_writeTx_same, BitVec.setWidth_eq_extractLsb' (by decide)]

end Sys2Proof.Machine

/-! Who writes the registers (R35, R37–R40): which agent a step belongs to, and what each agent can change. -/

namespace Sys2Proof.Machine

open Sys2Proof.Claims

/-- What only the Sequencer, a host write or reset can change. -/
structure KeptOutside (s t : State) : Prop where
  params     : t.params = s.params
  sdaDrv     : t.sdaDrv = s.sdaDrv
  ackr       : t.ackr = s.ackr
  state      : t.state = s.state
  sa         : t.sa = s.sa
  mode       : t.mode = s.mode
  ra         : t.ra = s.ra
  configured : t.configured = s.configured
  div        : t.div = s.div
  tolim      : t.tolim = s.tolim
  run        : t.run = s.run
  cmd        : t.cmd = s.cmd
  ovr        : t.ovr = s.ovr
  result     : t.result = s.result
  txbuf      : t.txbuf = s.txbuf
  rxbuf      : t.rxbuf = s.rxbuf
  upc        : t.upc = s.upc
  txb        : t.txb = s.txb
  rxb        : t.rxb = s.rxb
  i          : t.i = s.i
  att        : t.att = s.att
  xfer       : t.xfer = s.xfer
  nakph      : t.nakph = s.nakph
  draw       : t.draw = s.draw

section
variable {s t : State}

theorem KeptOutside.tickExpiry (h : KeptOutside s t) : KeptOutside s (tickExpiry t) := by
  rw [tickExpiry_eq]
  exact { h with }

theorem KeptOutside.clkStep (h : KeptOutside s t) : KeptOutside s (clkStep t) := by
  rcases clkStep_cases t with hc | ⟨-, -, -, hc⟩ | ⟨-, -, -, hc⟩ <;> rw [hc]
  · exact h
  · exact { h with }
  · exact h.tickExpiry

/-- Every step but reset is the Sequencer's, an accepted host write, or leaves the block's registers (R20–R28). -/
theorem step_agent {s' : State} {m : Move} (hm : nextMove s = (m, s')) (ht : step s = .next t) (hr : m ≠ .rst false) :
    (SequencerMoves s m ∧ sequencerStep s' = .next t) ∨
    (s.rstN = true ∧ ∃ off v, m = .hostWrite off v ∧ t = regWrite v s' (hostReg off)) ∨
    KeptOutside s t := by
  obtain ⟨hs, a, rfl⟩ := step_of_nextMove hm
  have hk : KeptOutside s { s with agenda := a } := by constructor <;> rfl
  rw [hs] at ht
  cases m with
  | block =>
    rcases blockStep_cases ht with ⟨-, rfl⟩ | ⟨hn, hq, hx⟩ | ⟨-, -, -, rfl⟩ | ⟨-, -, -, rfl⟩
    · exact .inr (.inr hk)
    · exact .inl ⟨⟨rfl, hn, hq⟩, hx⟩
    · exact .inr (.inr hk.tickExpiry)
    · exact .inr (.inr hk)
  | clk => cases ht; exact .inr (.inr hk.clkStep)
  | hostRead off => cases ht; exact .inr (.inr { hk with })
  | hostWrite off v =>
    cases ht
    by_cases hn : s.rstN = true
    · exact .inr (.inl ⟨hn, off, v, rfl, if_pos hn⟩)
    · exact .inr (.inr (by rw [hostStore, if_neg hn]; exact hk))
  | poll =>
    cases ht
    refine .inr (.inr ?_)
    unfold pollOnce
    simp only
    split <;> exact { hk with }
  | env sda scl => cases ht; exact .inr (.inr { hk with })
  | rst level =>
    cases level with
    | true => cases ht; exact .inr (.inr { hk with })
    | false => exact absurd rfl hr

/-! The Sequencer. -/

/-- A Sequencer step dispatches a legal command, or is part of a routine (or the end of an illegal command). -/
theorem sequencerStep_registers (h : sequencerStep s = .next t) :
    (s.upc = .dispatch ∧ ∃ i, decode s.cmd = .ok i ∧ exec i (clearCounters s) = .next t) ∨ KeptByRoutine s t := by
  rcases sequencerStep_cases h with ⟨-, -, rfl⟩ | hx | ⟨-, rfl | ⟨-, rfl⟩⟩ | ⟨-, -, rfl⟩
  · exact .inr (by constructor <;> rfl)
  · exact .inl hx
  · exact .inr (passAwait_kept s)
  · exact .inr ((passAwait_kept s).trans (passAwait_kept _))
  · exact .inr (forcedRelease_kept s)

/-- Which commands store the registers SA, RA, MODE, DIV and CFG (R37, R38). -/
theorem exec_registers {i : Instr} (h : exec i s = .next t) :
    (t.sa ≠ s.sa → (∃ sa ra md, i = .beginTx sa ra md) ∨ ∃ sa md, i = .rstart sa md) ∧
    (t.ra ≠ s.ra → ∃ sa ra md, i = .beginTx sa ra md) ∧
    (t.mode ≠ s.mode →
      (∃ sa ra md, i = .beginTx sa ra md) ∨ (∃ sa md, i = .rstart sa md) ∨ ∃ n c, i = .read n c) ∧
    (t.div ≠ s.div ∨ t.configured ≠ s.configured → ∃ f, i = .init f) := by
  cases i with
  | init f =>
    rcases execInit_cases h with ⟨-, rfl⟩ | ⟨-, d, -, rfl⟩ | ⟨-, -, rfl⟩ <;> simp
  | beginTx sa ra md =>
    rcases execBegin_cases h with ⟨-, rfl⟩ | ⟨-, -, rfl⟩ | ⟨-, -, rfl⟩ <;> simp
  | rstart sa md =>
    rcases execRstart_cases h with ⟨-, rfl⟩ | ⟨-, rfl⟩
    · simp
    · have hk := runRoutine_kept (restartCondition .rstart { s with sa := sa, mode := md })
      simp [hk.ra, hk.div, hk.configured]
  | write n =>
    rcases execWrite_cases h with ⟨-, rfl⟩ | ⟨-, -, rfl⟩ | ⟨-, -, rfl⟩
    · simp
    · simp
    · have hk := runRoutine_kept (loadPayload 0 { s with state := .payloadPhase })
      simp [hk.sa, hk.ra, hk.mode, hk.div, hk.configured]
  | read n cap =>
    rcases execRead_cases h with ⟨-, rfl⟩ | ⟨-, -, rfl⟩ | ⟨-, -, rfl⟩
    · simp
    · simp
    · have hk := runRoutine_kept (restartCondition .read { s with mode := .read })
      simp [hk.sa, hk.ra, hk.div, hk.configured]
  | endTx =>
    rcases execEnd_cases h with ⟨-, rfl⟩ | ⟨-, rfl⟩
    · simp
    · have hk := runRoutine_kept (stopCondition .ok s)
      simp [hk.sa, hk.ra, hk.mode, hk.div, hk.configured]

end

/-! The acknowledgement register (R35, R143). -/

section
variable {s t : State}

theorem frameAcked_ackr (f : Frame) (s : State) : (frameAcked f s).ackr = s.ackr := by
  rcases f with _ | _ | (_ | _) | _ <;> simp only [frameAcked]
  case restartAddr.read => unfold beginPayloadRead; simp only; split <;> rfl
  case payload => split <;> rfl
  all_goals rfl

theorem frameNacked_ackr (f : Frame) (s : State) : (frameNacked f s).ackr = s.ackr := by
  rcases f with _ | _ | _ | _ <;> simp only [frameNacked]
  case payload => split <;> rfl
  all_goals rfl

/-- Of all awaits only the acknowledgement check's sample writes ACKR. -/
theorem passAwait_ackr (h : ∀ f, s.upc ≠ .ackHigh f) : (passAwait s).ackr = s.ackr := by
  cases hu : s.upc with
  | ackHigh f => exact absurd hu (h f)
  | ackEnd f =>
    simp only [passAwait, hu]
    split
    · exact frameAcked_ackr f s
    · exact frameNacked_ackr f s
  | rxLow k b => simp only [passAwait, hu, receivedBit]; split <;> rfl
  | mackEnd => simp only [passAwait, hu]; split <;> rfl
  | _ => simp [passAwait, hu]

/-- A second await is passed in the same step only at phase 0, so it is no sample. -/
theorem not_ackHigh_after_pass (h : s.canPass = true) (h1 : (passAwait s).canPass = true) (f : Frame) :
    (passAwait s).upc ≠ .ackHigh f := by
  intro hu
  obtain ⟨l, hl, hh⟩ := canPass_awaits h
  obtain ⟨l1, hl1, hh1⟩ := canPass_awaits h1
  rw [hu] at hl1
  cases hl1
  have hp := (passAwait_kept s).phase
  cases l with
  | low => simp_all [State.holds, State.isLow, State.isHigh]
  | high =>
    rcases passAwait_after_high hl with h2 | h2
    · simp [hu, Upc.awaits] at h2
    · simp [canPass_of_not_running h2] at h1

/-- What a step of a routine does, with the awaits it passes. -/
theorem runRoutine_passes (s : State) :
    runRoutine s = s ∨ (s.canPass = true ∧ runRoutine s = passAwait s) ∨
      (s.canPass = true ∧ (passAwait s).canPass = true ∧ runRoutine s = passAwait (passAwait s)) := by
  by_cases h : s.canPass = true
  case neg => exact .inl (runRoutine_blocked (by simpa using h))
  by_cases h1 : (passAwait s).canPass = true
  case neg => exact .inr (.inl ⟨h, runRoutine_once h (by simpa using h1)⟩)
  rcases runRoutine_cases s with hr | hr | hr
  · exact .inl hr
  · exact .inr (.inl ⟨h, hr⟩)
  · exact .inr (.inr ⟨h, h1, hr⟩)

/-- A routine begun at no sample passes none in its step. -/
theorem runRoutine_ackr (h : ∀ f, s.upc ≠ .ackHigh f) : (runRoutine s).ackr = s.ackr := by
  rcases runRoutine_passes s with hr | ⟨-, hr⟩ | ⟨hp, h1, hr⟩ <;> rw [hr]
  · exact passAwait_ackr h
  · rw [passAwait_ackr (not_ackHigh_after_pass hp h1), passAwait_ackr h]

theorem exec_ackr {i : Instr} (h : exec i s = .next t) : t.ackr = s.ackr := by
  cases i with
  | init f => rcases execInit_cases h with ⟨-, rfl⟩ | ⟨-, d, -, rfl⟩ | ⟨-, -, rfl⟩ <;> rfl
  | beginTx sa ra md => rcases execBegin_cases h with ⟨-, rfl⟩ | ⟨-, -, rfl⟩ | ⟨-, -, rfl⟩ <;> rfl
  | rstart sa md =>
    rcases execRstart_cases h with ⟨-, rfl⟩ | ⟨-, rfl⟩
    · rfl
    · exact runRoutine_ackr (by simp)
  | write n =>
    rcases execWrite_cases h with ⟨-, rfl⟩ | ⟨-, -, rfl⟩ | ⟨-, -, rfl⟩
    · rfl
    · rfl
    · exact runRoutine_ackr (by simp)
  | read n cap =>
    rcases execRead_cases h with ⟨-, rfl⟩ | ⟨-, -, rfl⟩ | ⟨-, -, rfl⟩
    · rfl
    · rfl
    · exact runRoutine_ackr (by simp)
  | endTx =>
    rcases execEnd_cases h with ⟨-, rfl⟩ | ⟨-, rfl⟩
    · rfl
    · exact runRoutine_ackr (by simp)

/-- A Sequencer step that changes ACKR passes an acknowledgement check's sample, HIGH holding. -/
theorem sequencerStep_ackr (h : sequencerStep s = .next t) (hne : t.ackr ≠ s.ackr) :
    s.isHigh = true ∧ ∃ f, s.upc = .ackHigh f := by
  have sample : ∀ u : State, u.canPass = true → (∃ f, u.upc = .ackHigh f) → u.isHigh = true := fun u hp ⟨f, hu⟩ => by
    obtain ⟨l, hl, hh⟩ := canPass_awaits hp
    rw [hu] at hl
    cases hl
    exact hh
  rcases sequencerStep_cases h with ⟨-, -, rfl⟩ | ⟨-, i, -, he⟩ | ⟨hp, rfl | ⟨h1, rfl⟩⟩ | ⟨-, -, rfl⟩
  · exact absurd rfl hne
  · exact absurd (exec_ackr he) hne
  · have hu : ∃ f, s.upc = .ackHigh f := by
      by_contra hn
      exact hne (passAwait_ackr (not_exists.1 hn))
    exact ⟨sample s hp hu, hu⟩
  · have hu : ∃ f, s.upc = .ackHigh f := by
      by_contra hn
      exact hne ((passAwait_ackr (not_ackHigh_after_pass hp h1)).trans (passAwait_ackr (not_exists.1 hn)))
    exact ⟨sample s hp hu, hu⟩
  · exact absurd rfl hne

/-- The sample of an acknowledgement check: SDA released, ACKR set by the environment's pull (R143). -/
theorem sequencerStep_ackHigh {f : Frame} (hrun : s.run = true) (hu : s.upc = .ackHigh f) (hh : s.isHigh = true) :
    sequencerStep s = .next { driveSda .hiz s with ackr := s.eSdaLow, upc := .ackEnd f } := by
  have hp : s.canPass = true := by simp [State.canPass, hrun, hu, Upc.awaits, State.holds, hh]
  have hpass : passAwait s = { driveSda .hiz s with ackr := s.eSdaLow, upc := .ackEnd f } := by
    simp [passAwait, hu, sampleSda, State.sdaIn, State.sdaPull]
  have hph : s.phase = true := by simp only [State.isHigh, Bool.and_eq_true] at hh; exact hh.1
  have h1 : (passAwait s).canPass = false := by
    rw [hpass]
    exact not_canPass_of_level (l := .low) rfl (by simp [State.holds, State.isLow, hph])
  rw [sequencerStep_pass hp, runRoutine_once hp h1, hpass]

end

/-- Settles O41: a step that changes ACKR is the Sequencer's and passes a sample, and the sample records the pull. -/
theorem ackrWriters : Obligations.AckrWriters := by
  unfold Obligations.AckrWriters
  intro s s' t m hm ht
  refine ⟨fun hne => ?_, fun f hseq hu hh hrun => ?_⟩
  · by_cases hr : m = .rst false
    · exact .inl hr
    have hagent := step_agent hm ht hr
    obtain ⟨-, a, rfl⟩ := step_of_nextMove hm
    rcases hagent with ⟨hseq, hx⟩ | ⟨-, off, v, -, rfl⟩ | hk
    · exact .inr ⟨hseq, sequencerStep_ackr (s := { s with agenda := a }) hx hne⟩
    · rcases regWrite_cases v { s with agenda := a } (hostReg off) with
        hw | ⟨-, -, hw⟩ | ⟨-, -, hw⟩ | ⟨-, -, hw⟩ | ⟨-, hw⟩ | ⟨i, -, hw⟩ <;> rw [hw] at hne <;> exact absurd rfl hne
    · exact absurd hk.ackr hne
  · obtain ⟨rfl, hn, hq⟩ := hseq
    have hs := (sequencerBeforeTick s s' hm hn).1 hq
    obtain ⟨-, a, rfl⟩ := step_of_nextMove hm
    rw [hs, sequencerStep_ackHigh (s := { s with agenda := a }) hrun hu hh] at ht
    cases ht
    exact ⟨rfl, rfl, rfl⟩

/-- Settles O42: a step is the Sequencer's, whose dispatch alone stores registers and whose routines keep them, or a
host write, which stores one register, or it keeps them all. -/
theorem registerWriters : Obligations.RegisterWriters := by
  unfold Obligations.RegisterWriters
  intro s s' t m hm ht hr
  have hagent := step_agent hm ht hr
  obtain ⟨-, a, rfl⟩ := step_of_nextMove hm
  rcases hagent with ⟨hseq, hx⟩ | ⟨hn, off, v, rfl, rfl⟩ | hk
  · rcases sequencerStep_registers hx with ⟨hu, i, hi, he⟩ | hk
    · obtain ⟨hsa, hra, hmode, hdiv⟩ := exec_registers he
      obtain ⟨hparams, htolim, hcmd, hovr, htxbuf, -⟩ := exec_keeps he
      have hi' : decode s.cmd = .ok i := hi
      simp only [hi', Except.ok.injEq]
      exact ⟨fun h => ⟨hseq, hu, hsa h⟩, fun h => ⟨hseq, hu, hra h⟩, fun h => ⟨hseq, hu, hmode h⟩,
        fun h => ⟨hseq, hu, hdiv h⟩, fun h => absurd hcmd h, fun h => absurd htolim h, fun h => absurd htxbuf h,
        fun h => absurd hovr h, hparams⟩
    · simp [hk.sa, hk.ra, hk.mode, hk.div, hk.configured, hk.cmd, hk.tolim, hk.txbuf, hk.ovr, hk.params]
  · rcases regWrite_cases v { s with agenda := a } (hostReg off) with
      hw | ⟨hreg, hrun, hw⟩ | ⟨hreg, hrun, hw⟩ | ⟨hreg, hv, hw⟩ | ⟨hreg, hw⟩ | ⟨i, hreg, hw⟩ <;> rw [hw]
    · simp
    · have hoff : off.toNat < 4 := by have := hostReg_cmd_iff.1 hreg; omega
      have hrun' : s.run = true := hrun
      simp [hn, hoff, hrun']
    · have hoff : off.toNat < 4 := by have := hostReg_cmd_iff.1 hreg; omega
      have hrun' : s.run = false := hrun
      simp [hn, hoff, hrun']
    · have hoff := hostReg_status_iff.1 hreg
      simp [hn, hoff, hv]
    · have hoff := hostReg_tolim_iff.1 hreg
      simp [hn, hoff]
    · obtain ⟨hoff, hi⟩ := hostReg_txbuf_iff.1 hreg
      have hwin : 0x100 + i < 0x200 := by omega
      simp [hn, hoff, hwin]
  · simp [hk.sa, hk.ra, hk.mode, hk.div, hk.configured, hk.cmd, hk.tolim, hk.txbuf, hk.ovr, hk.params]

end Sys2Proof.Machine

/-! The host port, word by word of the map (R61–R65). -/

namespace Sys2Proof.Machine

section
variable {off : BitVec 12}

theorem hostReg_result_iff : hostReg off = .result ↔ off.toNat / 4 = 2 := by
  rw [hostReg, word_toNat]
  split_ifs <;> simp <;> omega

theorem hostReg_div_iff : hostReg off = .div ↔ off.toNat / 4 = 3 := by
  rw [hostReg, word_toNat]
  split_ifs <;> simp <;> omega

theorem hostReg_xact_iff : hostReg off = .xact ↔ off.toNat / 4 = 5 := by
  rw [hostReg, word_toNat]
  split_ifs <;> simp <;> omega

theorem hostReg_rxbuf_iff {i : Nat} : hostReg off = .rxbuf i ↔ off.toNat / 4 = 0x200 + i ∧ i < 0x100 := by
  rw [hostReg, word_toNat]
  generalize off.toNat / 4 = w
  split_ifs <;> simp <;> omega

theorem hostReg_reserved_iff :
    hostReg off = .reserved ↔ (6 ≤ off.toNat / 4 ∧ off.toNat / 4 < 0x100) ∨ 0x300 ≤ off.toNat / 4 := by
  rw [hostReg, word_toNat]
  generalize off.toNat / 4 = w
  split_ifs <;> simp <;> omega

/-- The bound a TOLIM write stores is the word's low half, or 1 in place of 0 (R49). -/
theorem legalTolim_eq (v : Word) : legalTolim v = if v.toNat % 2 ^ 16 = 0 then 1#16 else v.setWidth 16 := by
  have hz : v.setWidth 16 = 0#16 ↔ v.toNat % 2 ^ 16 = 0 := by
    rw [← BitVec.toNat_inj, BitVec.toNat_setWidth, BitVec.toNat_ofNat, Nat.zero_mod]
  rw [legalTolim, ← BitVec.setWidth_eq_extractLsb' (by decide)]
  simp only [hz]

variable {s s' : State}

/-- Out of reset a host read puts the register's value on the data port (R64). -/
theorem step_hostRead (hr : s.rstN = true) (hm : nextMove s = (.hostRead off, s')) :
    step s = .next { s' with hrdata := regValue s (hostReg off) } := by
  obtain ⟨hs, a, rfl⟩ := step_of_nextMove hm
  rw [hs, doMove, hostValue, if_pos hr]
  rfl

/-- Out of reset a host write has the register's effect (R65). -/
theorem step_hostWrite {v : Word} (hr : s.rstN = true) (hm : nextMove s = (.hostWrite off v, s')) :
    step s = .next (regWrite v s' (hostReg off)) := by
  obtain ⟨hs, a, rfl⟩ := step_of_nextMove hm
  rw [hs, doMove, hostStore, if_pos hr]

end

/-- Settles O14: a read answers `regValue` of the offset's register, which its word of the map names. -/
theorem hostReads : Obligations.HostReads := by
  unfold Obligations.HostReads
  intro s s' off hr hm
  refine ⟨regValue s (hostReg off), step_hostRead hr hm, fun hw => ?_, fun hw => ?_, fun hw => ?_, fun hw => ?_,
    fun hw => ?_, fun hw => ?_, fun hw => ?_, fun hw => ?_, fun hw => ?_, fun hw => ?_⟩
  · rw [hostReg_cmd_iff.2 hw, regValue]
  · rw [hostReg_status_iff.2 hw, regValue]
  · rw [hostReg_result_iff.2 hw, regValue]
  · rw [hostReg_div_iff.2 hw, regValue]
  · rw [hostReg_tolim_iff.2 hw, regValue]
  · rw [hostReg_xact_iff.2 hw, regValue]
  · rw [hostReg_reserved_iff.2 (.inl hw), regValue]
  · rw [(hostReg_txbuf_iff (i := off.toNat / 4 - 0x100)).2 (by omega), regValue]
  · rw [(hostReg_rxbuf_iff (i := off.toNat / 4 - 0x200)).2 (by omega), regValue]
  · rw [hostReg_reserved_iff.2 (.inr hw), regValue]

/-- Settles O15: a write is `regWrite` at the offset's register, which its word of the map names. -/
theorem hostWrites : Obligations.HostWrites := by
  unfold Obligations.HostWrites
  intro s s' off v hr hm
  have hstep := step_hostWrite hr hm
  obtain ⟨-, a, rfl⟩ := step_of_nextMove hm
  refine ⟨fun hw => ?_, fun hw => ?_, fun hw => ?_, fun hw => ?_, fun hw => ?_⟩
  · rw [hstep, hostReg_cmd_iff.2 hw]
    rfl
  · rw [hstep, hostReg_status_iff.2 hw, regWrite]
    cases v.getLsbD 11 <;> simp
  · rw [hstep, hostReg_tolim_iff.2 hw, regWrite, legalTolim_eq]
  · rw [hstep, (hostReg_txbuf_iff (i := off.toNat / 4 - 0x100)).2 (by omega), regWrite, writeTx,
      BitVec.setWidth_eq_extractLsb' (by decide)]
  · rw [hstep]
    rcases hw with hw | hw | hw | hw
    · rw [hostReg_result_iff.2 hw, regWrite]
    · rw [hostReg_div_iff.2 hw, regWrite]
    · by_cases h5 : off.toNat / 4 = 5
      · rw [hostReg_xact_iff.2 h5, regWrite]
      · rw [hostReg_reserved_iff.2 (by omega), regWrite]
    · by_cases h3 : off.toNat / 4 < 0x300
      · rw [(hostReg_rxbuf_iff (i := off.toNat / 4 - 0x200)).2 (by omega), regWrite]
      · rw [hostReg_reserved_iff.2 (by omega), regWrite]

end Sys2Proof.Machine

/-! The Sequencer's accesses to the buffers (R68, R42): what a step can do to RXBUF and to the byte in hand. -/

namespace Sys2Proof.Machine

/-- The positions whose await for LOW only drives SDA, and is followed by an await for HIGH (R120, R140). -/
def Upc.drives : Upc → Bool
  | .bitLow _ _ => true
  | .ackLow _   => true
  | .rsLow _    => true
  | .mackLow    => true
  | .stopLow _  => true
  | _           => false

/-- RXBUF and the registers of the byte in hand are the same in `s` and `t`. -/
structure KeptBytes (s t : State) : Prop where
  rxbuf : t.rxbuf = s.rxbuf
  rxb   : t.rxb = s.rxb
  txb   : t.txb = s.txb
  i     : t.i = s.i
  att   : t.att = s.att

/-- What a step from `s` to `t` does to RXBUF and to the byte in hand. -/
inductive ByteMove (s t : State) : Prop
  /-- Neither changes. -/
  | kept (hrx : t.rxbuf = s.rxbuf) (htx : t.txb = s.txb)
  /-- A received byte's eighth bit completes it, and the byte is written at its index (R68, R146). -/
  | received (b : Bool) (hu : s.upc = .rxLow 0 b) (hlow : s.isLow = true) (hrxb : t.rxb = shiftIn s.rxb b)
      (hrx : t.rxbuf = Memory.write s.rxbuf s.i.toNat t.rxb) (htx : t.txb = s.txb)
  /-- A byte is taken from TXBUF at its first attempt: the command's first, or the next after an acknowledged one (R179). -/
  | taken (hrx : t.rxbuf = s.rxbuf) (htx : t.txb = s.readTx t.i.toNat) (hatt : t.att = 1#4)
      (hwhen : (s.upc = .dispatch ∧ t.i = 0#9) ∨
        (s.upc = .ackEnd .payload ∧ s.ackr = true ∧ t.i.toNat = s.i.toNat + 1))

section
variable {s t u : State}

/-- What follows without touching the bytes does not change what was done to them. -/
theorem ByteMove.trans_kept (h : ByteMove s t) (k : KeptBytes t u) : ByteMove s u := by
  cases h with
  | kept hrx htx => exact .kept (k.rxbuf.trans hrx) (k.txb.trans htx)
  | received b hu hlow hrxb hrx htx =>
    exact .received b hu hlow (k.rxb.trans hrxb) (by rw [k.rxbuf, k.rxb, hrx]) (k.txb.trans htx)
  | taken hrx htx hatt hwhen =>
    exact .taken (k.rxbuf.trans hrx) (by rw [k.txb, k.i, htx]) (k.att.trans hatt) (by rwa [k.i])

/-! Awaits that only drive SDA. -/

theorem Upc.awaits_of_drives {p : Upc} (h : p.drives = true) : p.awaits = some .low := by
  cases p <;> simp_all [Upc.drives, Upc.awaits]

theorem passAwait_drives_kept (h : s.upc.drives = true) : KeptBytes s (passAwait s) := by
  cases hu : s.upc <;> simp only [hu, Upc.drives, Bool.false_eq_true] at h <;>
    constructor <;> simp [passAwait, hu]

theorem passAwait_drives_awaits (h : s.upc.drives = true) : (passAwait s).upc.awaits = some .high := by
  cases hu : s.upc <;> simp only [hu, Upc.drives, Bool.false_eq_true] at h <;> simp [passAwait, hu, Upc.awaits]

/-- LOW and HIGH do not hold in the same step: the second await waits for the next phase. -/
theorem not_canPass_high_after_low (h : s.canPass = true) (hl : s.upc.awaits = some .low)
    (hh : (passAwait s).upc.awaits = some .high) : (passAwait s).canPass = false := by
  obtain ⟨l, hl', hlow⟩ := canPass_awaits h
  cases hl.symm.trans hl'
  have hp : (passAwait s).phase = false := by
    rw [(passAwait_kept s).phase]
    simpa [State.holds, State.isLow] using hlow
  exact not_canPass_of_level hh (by simp [State.holds, State.isHigh, hp])

/-- A second await passed in the same step only drives SDA: the next frame's first bit, the master's acknowledgement or a
stop. -/
theorem drives_after_pass (h : s.canPass = true) (h1 : (passAwait s).canPass = true) :
    (passAwait s).upc.drives = true := by
  have running : (passAwait s).run ≠ false := fun hr => by simp [canPass_of_not_running hr] at h1
  obtain ⟨l, hl, hh⟩ := canPass_awaits h
  cases l with
  | low =>
    rcases passAwait_after_low hl with ha | hr | ⟨f, hu⟩ | hu | ⟨c, hu⟩
    · simp [not_canPass_high_after_low h hl ha] at h1
    · exact absurd hr running
    all_goals simp [hu, Upc.drives]
  | high =>
    have hp : (passAwait s).phase = true := by
      rw [(passAwait_kept s).phase]
      simp only [State.holds, State.isHigh, Bool.and_eq_true] at hh
      exact hh.1
    rcases passAwait_after_high hl with ha | hr
    · rw [not_canPass_of_level ha (by simp [State.holds, State.isLow, hp])] at h1
      cases h1
    · exact absurd hr running

/-- A routine begun at such a position touches no byte in its step. -/
theorem runRoutine_byteMove (hd : t.upc.drives = true) (h : ByteMove s t) : ByteMove s (runRoutine t) := by
  by_cases hp : t.canPass = true
  · have h1 := not_canPass_high_after_low hp (Upc.awaits_of_drives hd) (passAwait_drives_awaits hd)
    rw [runRoutine_once hp h1]
    exact h.trans_kept (passAwait_drives_kept hd)
  · rw [runRoutine_blocked (by simpa using hp)]
    exact h

/-! One await. -/

/-- An acknowledged payload byte is followed by the next one, taken from TXBUF, or ends the command (R179). -/
theorem frameAcked_byteMove {f : Frame} (hu : s.upc = .ackEnd f) (ha : s.ackr = true) : ByteMove s (frameAcked f s) := by
  rcases f with _ | _ | (_ | _) | _ <;> simp only [frameAcked]
  case restartAddr.read => unfold beginPayloadRead; simp only; split <;> exact .kept rfl rfl
  case payload =>
    split
    · rename_i hlt
      have hj : (BitVec.ofNat 9 (s.i.toNat + 1)).toNat = s.i.toNat + 1 := by
        have hc : s.count < 512 := (Word.count s.cmd).isLt
        have hlt' : s.i.toNat + 1 < s.count := hlt
        rw [BitVec.toNat_ofNat]
        omega
      exact .taken rfl (congrArg s.readTx hj.symm) rfl (.inr ⟨hu, ha, hj⟩)
    · exact .kept rfl rfl
  all_goals exact .kept rfl rfl

/-- Another attempt sends the byte in hand again, without a read of TXBUF (R182, R68). -/
theorem frameNacked_byteMove (f : Frame) (s : State) : ByteMove s (frameNacked f s) := by
  rcases f with _ | _ | _ | _ <;> simp only [frameNacked]
  case payload => split <;> exact .kept rfl rfl
  all_goals exact .kept rfl rfl

theorem receivedBit_byteMove {k : Fin 8} {b : Bool} (hu : s.upc = .rxLow k b) (hlow : s.isLow = true) :
    ByteMove s (receivedBit k b s) := by
  unfold receivedBit
  simp only
  split
  case isTrue hk => exact .received b (hk ▸ hu) hlow rfl rfl rfl
  case isFalse => exact .kept rfl rfl

/-- Of all awaits the last bit received writes RXBUF, and the acknowledged payload byte reads TXBUF. -/
theorem passAwait_byteMove (h : s.canPass = true) : ByteMove s (passAwait s) := by
  cases hu : s.upc with
  | ackEnd f =>
    simp only [passAwait, hu]
    split
    · exact frameAcked_byteMove hu ‹_›
    · exact frameNacked_byteMove f s
  | rxLow k b =>
    obtain ⟨l, hl, hlow⟩ := canPass_awaits h
    rw [hu] at hl
    cases hl
    simp only [passAwait, hu]
    exact receivedBit_byteMove hu hlow
  | mackEnd => simp only [passAwait, hu]; split <;> exact .kept rfl rfl
  | _ => exact .kept (by simp [passAwait, hu]) (by simp [passAwait, hu])

/-! The Sequencer's step and the machine's. -/

/-- Of all commands only WRITE takes a byte from TXBUF in its dispatch, byte 0 (R179). -/
theorem exec_byteMove {i : Instr} (hu : s.upc = .dispatch) (h : exec i s = .next t) : ByteMove s t := by
  cases i with
  | init f => rcases execInit_cases h with ⟨-, rfl⟩ | ⟨-, d, -, rfl⟩ | ⟨-, -, rfl⟩ <;> exact .kept rfl rfl
  | beginTx sa ra md => rcases execBegin_cases h with ⟨-, rfl⟩ | ⟨-, -, rfl⟩ | ⟨-, -, rfl⟩ <;> exact .kept rfl rfl
  | rstart sa md =>
    rcases execRstart_cases h with ⟨-, rfl⟩ | ⟨-, rfl⟩
    · exact .kept rfl rfl
    · exact runRoutine_byteMove rfl (.kept rfl rfl)
  | write n =>
    rcases execWrite_cases h with ⟨-, rfl⟩ | ⟨-, -, rfl⟩ | ⟨-, -, rfl⟩
    · exact .kept rfl rfl
    · exact .kept rfl rfl
    · exact runRoutine_byteMove rfl (.taken rfl rfl rfl (.inl ⟨hu, rfl⟩))
  | read n cap =>
    rcases execRead_cases h with ⟨-, rfl⟩ | ⟨-, -, rfl⟩ | ⟨-, -, rfl⟩
    · exact .kept rfl rfl
    · exact .kept rfl rfl
    · exact runRoutine_byteMove rfl (.kept rfl rfl)
  | endTx =>
    rcases execEnd_cases h with ⟨-, rfl⟩ | ⟨-, rfl⟩
    · exact .kept rfl rfl
    · exact runRoutine_byteMove rfl (.kept rfl rfl)

/-- The agenda and the counters that dispatch clears are read by no access to the buffers. -/
theorem ByteMove.of_counters {ms : List Move} {n : BitVec 9} {att : BitVec 4} {ph : BitVec 2}
    (h : ByteMove { s with agenda := ms, xfer := n, att := att, nakph := ph } t) : ByteMove s t := by
  cases h with
  | kept hrx htx => exact .kept hrx htx
  | received b hu hlow hrxb hrx htx => exact .received b hu hlow hrxb hrx htx
  | taken hrx htx hatt hwhen => exact .taken hrx htx hatt hwhen

theorem sequencerStep_byteMove (h : sequencerStep s = .next t) : ByteMove s t := by
  rcases sequencerStep_cases h with ⟨-, -, rfl⟩ | ⟨hu, i, -, he⟩ | ⟨hp, rfl | ⟨h1, rfl⟩⟩ | ⟨-, -, rfl⟩
  · exact .kept rfl rfl
  · exact ByteMove.of_counters (exec_byteMove (s := clearCounters s) hu he)
  · exact passAwait_byteMove hp
  · exact (passAwait_byteMove hp).trans_kept (passAwait_drives_kept (drives_after_pass hp h1))
  · exact .kept rfl rfl

theorem sequencerStep_draw (h : sequencerStep s = .next t) : t.draw = s.draw := by
  rcases sequencerStep_registers h with ⟨-, i, -, he⟩ | hk
  · obtain ⟨-, -, -, -, -, -, -, -, -, hdraw, -⟩ := exec_keeps he
    exact hdraw
  · exact hk.draw

/-- A host write leaves RXBUF, the byte in hand and the draw of the unwritten entries (R65). -/
theorem regWrite_keeps_bytes (v : Word) (s : State) (r : HostReg) :
    (regWrite v s r).rxbuf = s.rxbuf ∧ (regWrite v s r).txb = s.txb ∧ (regWrite v s r).draw = s.draw := by
  rcases regWrite_cases v s r with
    hw | ⟨-, -, hw⟩ | ⟨-, -, hw⟩ | ⟨-, -, hw⟩ | ⟨-, hw⟩ | ⟨i, -, hw⟩ <;> rw [hw] <;> exact ⟨rfl, rfl, rfl⟩

/-- In every step but reset the unwritten entries keep their draw, and RXBUF and the byte in hand change by the rules. -/
theorem step_byteMove {s' : State} {m : Move} (hm : nextMove s = (m, s')) (ht : step s = .next t) (hr : m ≠ .rst false) :
    ByteMove s t ∧ t.draw = s.draw := by
  have hagent := step_agent hm ht hr
  obtain ⟨-, a, rfl⟩ := step_of_nextMove hm
  rcases hagent with ⟨-, hx⟩ | ⟨-, off, v, -, rfl⟩ | hk
  · exact ⟨ByteMove.of_counters (sequencerStep_byteMove hx), sequencerStep_draw (s := { s with agenda := a }) hx⟩
  · obtain ⟨hrx, htx, hdraw⟩ := regWrite_keeps_bytes v { s with agenda := a } (hostReg off)
    exact ⟨.kept hrx htx, hdraw⟩
  · exact ⟨.kept hk.rxbuf hk.txb, hk.draw⟩

theorem readRx_congr (hrx : t.rxbuf = s.rxbuf) (hd : t.draw = s.draw) (j : Nat) : t.readRx j = s.readRx j := by
  rw [State.readRx, State.readRx, hrx, hd]

end

/-- Settles O49: a step that writes RXBUF takes a received byte's last bit, where the invariant bounds the index by the
count and the count by the capacity; one that reads TXBUF takes a byte for its first attempt. -/
theorem sequencerBufferAccesses : Obligations.SequencerBufferAccesses := by
  unfold Obligations.SequencerBufferAccesses
  intro s s' t m hinv hm ht hr
  obtain ⟨hmove, hdraw⟩ := step_byteMove hm ht hr
  cases hmove with
  | kept hrx htx =>
    exact ⟨absurd hrx, fun j _ => readRx_congr hrx hdraw j, absurd htx⟩
  | received b hu hlow hrxb hrx htx =>
    obtain ⟨-, hroutine⟩ := machineInv_iff.1 hinv
    obtain ⟨hreceive, -⟩ := (routineOk_rxLow hu).1 hroutine
    obtain ⟨-, -, -, hcount, hcap, -⟩ := receiveOk_iff.1 hreceive
    have hread (j : Nat) : t.readRx j = (writeRx s.i.toNat t.rxb s).readRx j :=
      readRx_congr (s := writeRx s.i.toNat t.rxb s) hrx hdraw j
    refine ⟨fun _ => ⟨hlow, hcount, hcap, b, hu, ?_, hrxb⟩, fun j hj => ?_, absurd htx⟩
    · rw [hread, readRx_writeRx_same]
    · rw [hread, readRx_writeRx_other s hj]
  | taken hrx htx hatt hwhen =>
    exact ⟨absurd hrx, fun j _ => readRx_congr hrx hdraw j, fun _ => ⟨htx, hatt, hwhen⟩⟩

end Sys2Proof.Machine

/-! The encoder and the decoder as arithmetic on the word (R80–R86). -/

namespace Sys2Proof.Machine

open Sys2Proof.Claims

/-! The fields of a word as numbers (R81). -/

section
variable {w : Word}

/-- A field of a word is `x` exactly when the word, read as a number, has `x` there. -/
theorem extractLsb'_eq_iff {lo n : Nat} {x : BitVec n} :
    w.extractLsb' lo n = x ↔ w.toNat / 2 ^ lo % 2 ^ n = x.toNat := by
  rw [← BitVec.toNat_inj, BitVec.extractLsb'_toNat, Nat.shiftRight_eq_div_pow]

theorem toNat_op (w : Word) : (Word.op w).toNat = w.toNat % 16 := by
  simp [Word.op]

theorem toNat_freq (w : Word) : (Word.freq w).toNat = w.toNat / 16 % 2 ^ 24 := by
  simp [Word.freq, Nat.shiftRight_eq_div_pow]

theorem toNat_sa (w : Word) : (Word.sa w).toNat = w.toNat / 16 % 128 := by
  simp [Word.sa, Nat.shiftRight_eq_div_pow]

theorem toNat_ra (w : Word) : (Word.ra w).toNat = w.toNat / 2 ^ 12 % 256 := by
  simp [Word.ra, Nat.shiftRight_eq_div_pow]

theorem toNat_count (w : Word) : (Word.count w).toNat = w.toNat / 16 % 512 := by
  simp [Word.count, Nat.shiftRight_eq_div_pow]

theorem toNat_cap (w : Word) : (Word.cap w).toNat = w.toNat / 2 ^ 13 % 512 := by
  simp [Word.cap, Nat.shiftRight_eq_div_pow]

theorem op_eq_iff {x : BitVec 4} : Word.op w = x ↔ w.toNat % 16 = x.toNat := by
  rw [← BitVec.toNat_inj, toNat_op]

/-- The bits from `lo` on are 0 exactly when the word is below the first of them (R83). -/
theorem highBits_eq_zero_iff {lo n : Nat} (h : lo + n = 32) : w.extractLsb' lo n = 0#n ↔ w.toNat < 2 ^ lo := by
  have hlt : w.toNat / 2 ^ lo < 2 ^ n := by
    rw [Nat.div_lt_iff_lt_mul (Nat.two_pow_pos lo), ← Nat.pow_add, Nat.add_comm, h]
    exact w.isLt
  rw [extractLsb'_eq_iff, BitVec.toNat_ofNat, Nat.zero_mod, Nat.mod_eq_of_lt hlt,
    Nat.div_eq_zero_iff_lt (Nat.two_pow_pos lo)]

theorem bit_ofBit (b : BitVec 1) : (Mode.ofBit b).bit = b := by
  revert b; decide

theorem ofBit_bit (m : Mode) : Mode.ofBit m.bit = m := by
  cases m <;> rfl

theorem mode_eq_iff {m : Mode} : Word.mode w = m ↔ w.toNat / 2 ^ 11 % 2 ^ 1 = m.bit.toNat := by
  rw [← extractLsb'_eq_iff, Word.mode]
  exact ⟨fun h => by rw [← h, bit_ofBit], fun h => by rw [h, ofBit_bit]⟩

end

/-! R86's formulas: the word of a command as a sum. -/

/-- A field placed below which everything else of the word lies adds to it. -/
theorem toNat_fieldAt_or {n lo : Nat} {w : Word} {x : BitVec n} (hw : w.toNat < 2 ^ lo) (hlo : lo + n ≤ 32) :
    (fieldAt x lo ||| w).toNat = x.toNat * 2 ^ lo + w.toNat := by
  rw [BitVec.or_comm, toNat_or_fieldAt hw hlo, Nat.add_comm]

theorem toNat_encode_init (f : BitVec 24) : (encode (.init f)).toNat = f.toNat * 2 ^ 4 + 1 :=
  toNat_fieldAt_or (by decide) (by decide)

/-- MODE, SA and OP, as BEGIN and RSTART carry them (R81). -/
theorem toNat_mode_sa_op (sa : BitVec 7) (m : Mode) {op : Word} (hop : op.toNat < 2 ^ 4) :
    (fieldAt m.bit 11 ||| fieldAt sa 4 ||| op).toNat = m.bit.toNat * 2 ^ 11 + sa.toNat * 2 ^ 4 + op.toNat := by
  have hsa := toNat_fieldAt_or (x := sa) hop (by decide)
  rw [BitVec.or_assoc, toNat_fieldAt_or (by omega) (by decide), hsa, Nat.add_assoc]

theorem toNat_encode_beginTx (sa : BitVec 7) (ra : Byte) (m : Mode) :
    (encode (.beginTx sa ra m)).toNat = ra.toNat * 2 ^ 12 + m.bit.toNat * 2 ^ 11 + sa.toNat * 2 ^ 4 + 2 := by
  have hlow := toNat_mode_sa_op sa m (op := 2#32) (by decide)
  rw [encode, BitVec.or_assoc, BitVec.or_assoc, ← BitVec.or_assoc (fieldAt m.bit 11),
    toNat_fieldAt_or (by rw [hlow, BitVec.toNat_ofNat]; omega) (by decide), hlow, ← Nat.add_assoc, ← Nat.add_assoc]
  rfl

theorem toNat_encode_rstart (sa : BitVec 7) (m : Mode) :
    (encode (.rstart sa m)).toNat = m.bit.toNat * 2 ^ 11 + sa.toNat * 2 ^ 4 + 3 :=
  toNat_mode_sa_op sa m (by decide)

theorem toNat_encode_write (n : BitVec 9) : (encode (.write n)).toNat = n.toNat * 2 ^ 4 + 4 :=
  toNat_fieldAt_or (by decide) (by decide)

theorem toNat_encode_read (n cap : BitVec 9) :
    (encode (.read n cap)).toNat = cap.toNat * 2 ^ 13 + n.toNat * 2 ^ 4 + 5 := by
  have hlow := toNat_fieldAt_or (w := 5#32) (x := n) (lo := 4) (by decide) (by decide)
  rw [encode, BitVec.or_assoc, toNat_fieldAt_or (by rw [hlow, BitVec.toNat_ofNat]; omega) (by decide), hlow,
    ← Nat.add_assoc]
  rfl

theorem toNat_encode_endTx : (encode .endTx).toNat = 6 := rfl

/-! R82's conditions as numbers. -/

theorem wf_write {n : BitVec 9} : Instr.wf (.write n) = true ↔ n.toNat ≤ 256 := by
  simp [Instr.wf, BitVec.le_def]

theorem wf_read {n cap : BitVec 9} :
    Instr.wf (.read n cap) = true ↔ 1 ≤ n.toNat ∧ n.toNat ≤ 256 ∧ cap.toNat ≤ 256 := by
  simp [Instr.wf, BitVec.le_def, and_assoc]

/-! The decoder inverts the encoder: the word of each command decodes to it (R84). -/

/-- R84's tests in the decoder's order, as arithmetic: OP, then the reserved bits, then the counts. -/
theorem decode_eq (w : Word) : decode w =
    if w.toNat % 16 = 1 then
      if w.toNat < 2 ^ 28 then .ok (.init (Word.freq w)) else .error .reservedBits
    else if w.toNat % 16 = 2 then
      if w.toNat < 2 ^ 20 then .ok (.beginTx (Word.sa w) (Word.ra w) (Word.mode w)) else .error .reservedBits
    else if w.toNat % 16 = 3 then
      if w.toNat < 2 ^ 12 then .ok (.rstart (Word.sa w) (Word.mode w)) else .error .reservedBits
    else if w.toNat % 16 = 4 then
      if w.toNat < 2 ^ 13 then
        if w.toNat / 16 % 512 ≤ 256 then .ok (.write (Word.count w)) else .error .countTooLarge
      else .error .reservedBits
    else if w.toNat % 16 = 5 then
      if w.toNat < 2 ^ 22 then
        if w.toNat / 16 % 512 = 0 then .error .countZero
        else if 256 < w.toNat / 16 % 512 then .error .countTooLarge
        else if 256 < w.toNat / 2 ^ 13 % 512 then .error .capTooLarge
        else .ok (.read (Word.count w) (Word.cap w))
      else .error .reservedBits
    else if w.toNat % 16 = 6 then
      if w.toNat < 2 ^ 4 then .ok .endTx else .error .reservedBits
    else .error .reservedOp := by
  simp only [decode, op_eq_iff, highBits_eq_zero_iff, BitVec.le_def, BitVec.lt_def,
    ← BitVec.toNat_inj (x := Word.count w), toNat_count, toNat_cap, BitVec.toNat_ofNat, Nat.reducePow, Nat.reduceMod,
    Nat.reduceAdd]

section
variable {w : Word}

theorem decode_init {f : BitVec 24} (hw : w.toNat = f.toNat * 2 ^ 4 + 1) : decode w = .ok (.init f) := by
  have hf : Word.freq w = f := extractLsb'_eq_iff.2 (by omega)
  rw [decode_eq, if_pos (by omega), if_pos (by omega), hf]

theorem decode_beginTx {sa : BitVec 7} {ra : Byte} {m : Mode}
    (hw : w.toNat = ra.toNat * 2 ^ 12 + m.bit.toNat * 2 ^ 11 + sa.toNat * 2 ^ 4 + 2) :
    decode w = .ok (.beginTx sa ra m) := by
  have hsa : Word.sa w = sa := extractLsb'_eq_iff.2 (by omega)
  have hra : Word.ra w = ra := extractLsb'_eq_iff.2 (by omega)
  have hm : Word.mode w = m := mode_eq_iff.2 (by omega)
  rw [decode_eq, if_neg (by omega), if_pos (by omega), if_pos (by omega), hsa, hra, hm]

theorem decode_rstart {sa : BitVec 7} {m : Mode} (hw : w.toNat = m.bit.toNat * 2 ^ 11 + sa.toNat * 2 ^ 4 + 3) :
    decode w = .ok (.rstart sa m) := by
  have hsa : Word.sa w = sa := extractLsb'_eq_iff.2 (by omega)
  have hm : Word.mode w = m := mode_eq_iff.2 (by omega)
  rw [decode_eq, if_neg (by omega), if_neg (by omega), if_pos (by omega), if_pos (by omega), hsa, hm]

theorem decode_write {n : BitVec 9} (hw : w.toNat = n.toNat * 2 ^ 4 + 4) (hn : n.toNat ≤ 256) :
    decode w = .ok (.write n) := by
  have hcount : Word.count w = n := extractLsb'_eq_iff.2 (by omega)
  rw [decode_eq, if_neg (by omega), if_neg (by omega), if_neg (by omega), if_pos (by omega), if_pos (by omega),
    if_pos (by omega), hcount]

theorem decode_read {n cap : BitVec 9} (hw : w.toNat = cap.toNat * 2 ^ 13 + n.toNat * 2 ^ 4 + 5) (hpos : 1 ≤ n.toNat)
    (hn : n.toNat ≤ 256) (hcap : cap.toNat ≤ 256) : decode w = .ok (.read n cap) := by
  have hcount : Word.count w = n := extractLsb'_eq_iff.2 (by omega)
  have hcapacity : Word.cap w = cap := extractLsb'_eq_iff.2 (by omega)
  rw [decode_eq, if_neg (by omega), if_neg (by omega), if_neg (by omega), if_neg (by omega), if_pos (by omega),
    if_pos (by omega), if_neg (by omega), if_neg (by omega), if_neg (by omega), hcount, hcapacity]

theorem decode_endTx (hw : w.toNat = 6) : decode w = .ok .endTx := by
  rw [BitVec.eq_of_toNat_eq (y := 6#32) hw]
  decide

end

/-- Settles O4: the word of a command is R86's sum, whose digits are the fields the decoder reads. -/
theorem decodeOfEncode : Obligations.DecodeOfEncode := by
  unfold Obligations.DecodeOfEncode
  intro i hwf
  cases i with
  | init f => exact decode_init (toNat_encode_init f)
  | beginTx sa ra m => exact decode_beginTx (toNat_encode_beginTx sa ra m)
  | rstart sa m => exact decode_rstart (toNat_encode_rstart sa m)
  | write n => exact decode_write (toNat_encode_write n) (wf_write.1 hwf)
  | read n cap =>
    obtain ⟨hpos, hn, hcap⟩ := wf_read.1 hwf
    exact decode_read (toNat_encode_read n cap) hpos hn hcap
  | endTx => exact decode_endTx toNat_encode_endTx

/-- Settles O5: in each branch where `decode` answers a command, the fields it read are all of the word, the bits outside
them having been tested to be 0. -/
theorem encodeOfDecode : Obligations.EncodeOfDecode := by
  unfold Obligations.EncodeOfDecode
  intro w i h
  rw [decode_eq] at h
  split_ifs at h <;> cases h
  · refine ⟨rfl, BitVec.eq_of_toNat_eq ?_⟩
    rw [toNat_encode_init, toNat_freq]
    omega
  · refine ⟨rfl, BitVec.eq_of_toNat_eq ?_⟩
    rw [toNat_encode_beginTx, ← mode_eq_iff.1 rfl, toNat_ra, toNat_sa]
    omega
  · refine ⟨rfl, BitVec.eq_of_toNat_eq ?_⟩
    rw [toNat_encode_rstart, ← mode_eq_iff.1 rfl, toNat_sa]
    omega
  · refine ⟨wf_write.2 (by rwa [toNat_count]), BitVec.eq_of_toNat_eq ?_⟩
    rw [toNat_encode_write, toNat_count]
    omega
  · refine ⟨wf_read.2 (by rw [toNat_count, toNat_cap]; omega), BitVec.eq_of_toNat_eq ?_⟩
    rw [toNat_encode_read, toNat_count, toNat_cap]
    omega
  · exact ⟨rfl, BitVec.eq_of_toNat_eq (by rw [toNat_encode_endTx]; omega)⟩

theorem illegalWord_of_decode_error {w : Word} {e : Illegal} (h : decode w = .error e) : IllegalWord w := by
  rw [decode_eq] at h
  unfold IllegalWord
  split_ifs at h <;> cases h <;> omega

/-- The decoder says yes to a word exactly when the word is a well-formed command's. -/
theorem decode_eq_ok_iff {w : Word} {i : Instr} : decode w = .ok i ↔ i.wf = true ∧ w.toNat = (encode i).toNat := by
  constructor
  · intro h
    obtain ⟨hwf, hw⟩ := encodeOfDecode w i h
    exact ⟨hwf, by rw [hw]⟩
  · rintro ⟨hwf, hw⟩
    rw [BitVec.eq_of_toNat_eq hw, decodeOfEncode i hwf]

theorem not_illegalWord_of_decode {w : Word} {i : Instr} (h : decode w = .ok i) : ¬ IllegalWord w := by
  obtain ⟨hwf, hw⟩ := decode_eq_ok_iff.1 h
  unfold IllegalWord
  cases i with
  | init f => rw [toNat_encode_init] at hw; omega
  | beginTx sa ra m => rw [toNat_encode_beginTx] at hw; omega
  | rstart sa m => rw [toNat_encode_rstart] at hw; omega
  | write n => rw [toNat_encode_write] at hw; rw [wf_write] at hwf; omega
  | read n cap => rw [toNat_encode_read] at hw; rw [wf_read] at hwf; omega
  | endTx => rw [toNat_encode_endTx] at hw; omega

/-- R83 lists exactly the words the decoder refuses. -/
theorem decode_error_iff {w : Word} : (∃ e, decode w = .error e) ↔ IllegalWord w := by
  refine ⟨fun ⟨_, h⟩ => illegalWord_of_decode_error h, fun h => ?_⟩
  cases hd : decode w with
  | error e => exact ⟨e, rfl⟩
  | ok i => exact absurd h (not_illegalWord_of_decode hd)

/-- A MODE bit read as a number is its direction's bit. -/
theorem read_iff_bit {m : Mode} {k : Nat} : (m = .read ↔ k % 2 = 1) ↔ m.bit.toNat = k % 2 := by
  cases m <;> simp [Mode.bit] <;> omega

/-- Settles O6: the word of a command is a sum of its fields, each of which division and remainder give back. -/
theorem decodeByArithmetic : Obligations.DecodeByArithmetic := by
  unfold Obligations.DecodeByArithmetic
  intro w
  refine ⟨fun f => ?_, fun sa ra m => ?_, fun sa m => ?_, fun n => ?_, fun n cap => ?_, ?_⟩ <;>
    rw [decode_eq_ok_iff]
  · rw [toNat_encode_init]
    exact ⟨fun ⟨_, hw⟩ => by omega, fun h => ⟨rfl, by omega⟩⟩
  · rw [toNat_encode_beginTx, read_iff_bit]
    exact ⟨fun ⟨_, hw⟩ => by omega, fun h => ⟨rfl, by omega⟩⟩
  · rw [toNat_encode_rstart, read_iff_bit]
    exact ⟨fun ⟨_, hw⟩ => by omega, fun h => ⟨rfl, by omega⟩⟩
  · rw [toNat_encode_write, wf_write]
    omega
  · rw [toNat_encode_read, wf_read]
    omega
  · rw [toNat_encode_endTx]
    exact ⟨fun ⟨_, hw⟩ => hw, fun hw => ⟨rfl, hw⟩⟩

/-! R82's table. -/

/-- Every command fits its row: the facts of the table, by command. -/
theorem encode_and_mask (i : Instr) : encode i &&& i.row.mask = i.row.word := by
  cases i with
  | init f => exact Laws.TableRow.init f
  | beginTx sa ra m => exact Laws.TableRow.beginTx sa ra m
  | rstart sa m => exact Laws.TableRow.rstart sa m
  | write n => exact Laws.TableRow.write n
  | read n cap => exact Laws.TableRow.read n cap
  | endTx => exact Laws.TableRow.endTx

/-- A field that the mask selects whole has the match's value in every word that fits. -/
theorem field_of_fits {w mask word : Word} {lo n : Nat} (h : w &&& mask = word)
    (hm : mask.extractLsb' lo n = BitVec.allOnes n) : w.extractLsb' lo n = word.extractLsb' lo n := by
  rw [← h, BitVec.extractLsb'_and, hm, BitVec.and_allOnes]

/-- A row whose mask selects every bit from `lo` on, and whose match has 0 there, takes only words below `2 ^ lo`. -/
theorem lt_of_fits (lo n : Nat) {w mask word : Word} (h : w &&& mask = word) (hlo : lo + n = 32)
    (hm : mask.extractLsb' lo n = BitVec.allOnes n) (hz : word.extractLsb' lo n = 0#n) : w.toNat < 2 ^ lo :=
  (highBits_eq_zero_iff hlo).1 ((field_of_fits h hm).trans hz)

/-- The rows of R82's table. -/
def tableRows : List Row :=
  [⟨0xF000000F#32, 1#32⟩, ⟨0xFFF0000F#32, 2#32⟩, ⟨0xFFFFF00F#32, 3#32⟩, ⟨0xFFFFE00F#32, 4#32⟩, ⟨0xFFC0000F#32, 5#32⟩,
    ⟨0xFFFFFFFF#32, 6#32⟩]

theorem row_mem_tableRows (i : Instr) : i.row ∈ tableRows := by
  cases i <;> simp [Instr.row, tableRows]

/-- Every mask selects OP. -/
theorem op_of_fits {w : Word} {r : Row} (hr : r ∈ tableRows) (h : w &&& r.mask = r.word) : Word.op w = Word.op r.word :=
  have hmask : ∀ r ∈ tableRows, r.mask.extractLsb' 0 4 = BitVec.allOnes 4 := by decide
  field_of_fits h (hmask r hr)

/-- No two rows have the same OP, so a word fits at most one. -/
theorem row_unique {w : Word} {i j : Instr} (hi : w &&& i.row.mask = i.row.word) (hj : w &&& j.row.mask = j.row.word) :
    i.row = j.row :=
  have hrows : ∀ r ∈ tableRows, ∀ q ∈ tableRows, Word.op r.word = Word.op q.word → r = q := by decide
  hrows _ (row_mem_tableRows i) _ (row_mem_tableRows j)
    ((op_of_fits (row_mem_tableRows i) hi).symm.trans (op_of_fits (row_mem_tableRows j) hj))

/-- The rows and their count conditions shut out every clause of R83. -/
theorem not_illegalWord_of_fits {w : Word} {j : Instr} (h : w &&& j.row.mask = j.row.word)
    (hwrite : j.row.word = 4#32 → w.toNat / 16 % 512 ≤ 256)
    (hread : j.row.word = 5#32 → 1 ≤ w.toNat / 16 % 512 ∧ w.toNat / 16 % 512 ≤ 256 ∧ w.toNat / 2 ^ 13 % 512 ≤ 256) :
    ¬ IllegalWord w := by
  have hop := op_eq_iff.1 (op_of_fits (row_mem_tableRows j) h)
  unfold IllegalWord
  cases j <;> simp only [Instr.row] at h
  case init =>
    have hres := lt_of_fits 28 4 h rfl rfl rfl
    have hop : w.toNat % 16 = 1 := hop
    omega
  case beginTx =>
    have hres := lt_of_fits 20 12 h rfl rfl rfl
    have hop : w.toNat % 16 = 2 := hop
    omega
  case rstart =>
    have hres := lt_of_fits 12 20 h rfl rfl rfl
    have hop : w.toNat % 16 = 3 := hop
    omega
  case write =>
    have hres := lt_of_fits 13 19 h rfl rfl rfl
    have hop : w.toNat % 16 = 4 := hop
    have hcount := hwrite rfl
    omega
  case read =>
    have hres := lt_of_fits 22 10 h rfl rfl rfl
    have hop : w.toNat % 16 = 5 := hop
    have hcounts := hread rfl
    omega
  case endTx =>
    have hres := lt_of_fits 4 28 h rfl rfl rfl
    have hop : w.toNat % 16 = 6 := hop
    omega

/-- Settles O7: OP tells the rows apart, and a word that fits a row and its conditions is none of R83's. -/
theorem tableRowsSelect : Obligations.TableRowsSelect := by
  unfold Obligations.TableRowsSelect
  have hfits (w : Word) (i : Instr) (h : decode w = .ok i) : w &&& i.row.mask = i.row.word ∧ i.wf = true := by
    obtain ⟨hwf, hw⟩ := encodeOfDecode w i h
    exact ⟨hw ▸ encode_and_mask i, hwf⟩
  refine ⟨fun w i j => row_unique, hfits, fun w j h hwrite hread => ?_⟩
  cases hd : decode w with
  | error e => exact absurd (illegalWord_of_decode_error hd) (not_illegalWord_of_fits h hwrite hread)
  | ok i => exact ⟨i, rfl, row_unique (hfits w i hd).1 h⟩

/-- Settles O3: the decoder run on R89's words. -/
theorem decodeExamples : Obligations.DecodeExamples := by
  unfold Obligations.DecodeExamples
  decide

/-! The assembler (R86). -/

theorem toNat_mode_bit_mul (m : Mode) : m.bit.toNat * 2 ^ 11 = if m = .read then 2 ^ 11 else 0 := by
  cases m <;> rfl

theorem assemble_init (f : Nat) :
    assemble (.init f) = if f ≤ 0xFFFFFF then some (BitVec.ofNat 32 (f * 16 + 1)) else none := by
  simp only [assemble, CommandText.instr?]
  split_ifs with h
  · refine congrArg some (BitVec.eq_of_toNat_eq ?_)
    rw [toNat_encode_init, BitVec.toNat_ofNat, BitVec.toNat_ofNat]
    omega
  · rfl

theorem assemble_beginTx (sa ra : Nat) (m : Mode) : assemble (.beginTx sa ra m) =
    if sa ≤ 127 ∧ ra ≤ 255 then
      some (BitVec.ofNat 32 (ra * 2 ^ 12 + (if m = .read then 2 ^ 11 else 0) + sa * 16 + 2)) else none := by
  simp only [assemble, CommandText.instr?, ← toNat_mode_bit_mul]
  split_ifs with h
  · refine congrArg some (BitVec.eq_of_toNat_eq ?_)
    rw [toNat_encode_beginTx, BitVec.toNat_ofNat, BitVec.toNat_ofNat, BitVec.toNat_ofNat]
    omega
  · rfl

theorem assemble_rstart (sa : Nat) (m : Mode) : assemble (.rstart sa m) =
    if sa ≤ 127 then some (BitVec.ofNat 32 ((if m = .read then 2 ^ 11 else 0) + sa * 16 + 3)) else none := by
  simp only [assemble, CommandText.instr?, ← toNat_mode_bit_mul]
  split_ifs with h
  · refine congrArg some (BitVec.eq_of_toNat_eq ?_)
    rw [toNat_encode_rstart, BitVec.toNat_ofNat, BitVec.toNat_ofNat]
    omega
  · rfl

theorem assemble_write (n : Nat) :
    assemble (.write n) = if n ≤ 256 then some (BitVec.ofNat 32 (n * 16 + 4)) else none := by
  simp only [assemble, CommandText.instr?]
  split_ifs with h
  · refine congrArg some (BitVec.eq_of_toNat_eq ?_)
    rw [toNat_encode_write, BitVec.toNat_ofNat, BitVec.toNat_ofNat]
    omega
  · rfl

theorem assemble_read (n c : Nat) : assemble (.read n c) =
    if 1 ≤ n ∧ n ≤ 256 ∧ c ≤ 256 then some (BitVec.ofNat 32 (c * 2 ^ 13 + n * 16 + 5)) else none := by
  simp only [assemble, CommandText.instr?]
  split_ifs with h
  · refine congrArg some (BitVec.eq_of_toNat_eq ?_)
    rw [toNat_encode_read, BitVec.toNat_ofNat, BitVec.toNat_ofNat, BitVec.toNat_ofNat]
    omega
  · rfl

theorem assemble_endTx : assemble .endTx = some 6#32 := rfl

/-- The assembler reads only well-formed commands. -/
theorem instr?_wf {t : CommandText} {i : Instr} (h : t.instr? = some i) : i.wf = true := by
  cases t <;> simp only [CommandText.instr?, Option.ite_none_right_eq_some, Option.some.injEq] at h
  case write n =>
    obtain ⟨hn, rfl⟩ := h
    rw [wf_write, BitVec.toNat_ofNat]
    omega
  case read n cap =>
    obtain ⟨hn, rfl⟩ := h
    rw [wf_read, BitVec.toNat_ofNat, BitVec.toNat_ofNat]
    omega
  case endTx => subst h; rfl
  all_goals obtain ⟨-, rfl⟩ := h; rfl

theorem decode_of_assemble {t : CommandText} {w : Word} (h : assemble t = some w) : ∃ i, decode w = .ok i := by
  obtain ⟨i, hi, rfl⟩ := Option.map_eq_some_iff.1 h
  exact ⟨i, decodeOfEncode i (instr?_wf hi)⟩

/-- Settles O9: R86's formula for each text, and a command that is read is well formed, so its word decodes. -/
theorem assemblerWords : Obligations.AssemblerWords :=
  ⟨assemble_init, assemble_beginTx, assemble_rstart, assemble_write, assemble_read, assemble_endTx,
    fun _ _ => decode_of_assemble⟩

/-! The pseudo-instructions (R88). -/

/-- A TXBUF fill writes consecutive entries, in the order of the bytes. -/
theorem fillTx_eq_map (k : Nat) (bytes : List Byte) :
    fillTx k bytes = (List.range bytes.length).map fun j =>
      Move.hostWrite (BitVec.ofNat 12 (0x400 + 4 * (k + j))) ((bytes.getD j 0#8).setWidth 32) := by
  induction bytes generalizing k with
  | nil => rfl
  | cons b bs ih =>
    rw [fillTx, ih, List.length_cons, List.range_succ_eq_map, List.map_cons, List.map_map]
    refine congrArg₂ _ rfl (List.map_congr_left fun j _ => ?_)
    rw [Function.comp_apply, List.getD_cons_succ, Nat.succ_eq_add_one, Nat.add_assoc k, Nat.add_comm 1]

theorem expandExec_eq {t : CommandText} {w : Word} (h : assemble t = some w) :
    expandExec t = some [.hostWrite 0x000#12 w, .poll] := by
  rw [expandExec, h]
  rfl

/-- Accesses joined one after the other, none of them refused. -/
theorem joinMoves_some (parts : List (List Move)) : joinMoves (parts.map some) = some parts.flatten := by
  induction parts with
  | nil => rfl
  | cons ms parts ih =>
    have hcons : joinMoves (some ms :: parts.map some) = (joinMoves (parts.map some)).map (ms ++ ·) := rfl
    rw [List.map_cons, hcons, ih]
    rfl

theorem expandExec_beginTx_write {sa ra : Nat} (hsa : sa ≤ 127) (hra : ra ≤ 255) :
    expandExec (.beginTx sa ra .write) =
      some [.hostWrite 0x000#12 (BitVec.ofNat 32 (ra * 2 ^ 12 + sa * 16 + 2)), .poll] :=
  expandExec_eq (by rw [assemble_beginTx, if_pos ⟨hsa, hra⟩, if_neg (by decide), Nat.add_zero (ra * 2 ^ 12)])

theorem expand_regWrite {sa ra : Nat} {bytes : List Byte} (hsa : sa ≤ 127) (hra : ra ≤ 255) (hlen : bytes.length ≤ 256) :
    Pseudo.expand (.regWrite sa ra bytes) = some (fillTx 0 bytes ++
      [.hostWrite 0x000#12 (BitVec.ofNat 32 (ra * 2 ^ 12 + sa * 16 + 2)), .poll,
       .hostWrite 0x000#12 (BitVec.ofNat 32 (bytes.length * 16 + 4)), .poll, .hostWrite 0x000#12 6#32, .poll]) := by
  rw [Pseudo.expand, expandExec_beginTx_write hsa hra,
    expandExec_eq ((assemble_write bytes.length).trans (if_pos hlen)), expandExec_eq assemble_endTx]
  exact joinMoves_some [_, _, _, _]

theorem expand_regRead {sa ra n : Nat} (hsa : sa ≤ 127) (hra : ra ≤ 255) (hpos : 1 ≤ n) (hn : n ≤ 256) :
    Pseudo.expand (.regRead sa ra n) = some
      [.hostWrite 0x000#12 (BitVec.ofNat 32 (ra * 2 ^ 12 + sa * 16 + 2)), .poll,
       .hostWrite 0x000#12 (BitVec.ofNat 32 (n * 2 ^ 13 + n * 16 + 5)), .poll, .hostWrite 0x000#12 6#32, .poll] := by
  rw [Pseudo.expand, expandExec_beginTx_write hsa hra,
    expandExec_eq ((assemble_read n n).trans (if_pos ⟨hpos, hn, hn⟩)), expandExec_eq assemble_endTx]
  exact joinMoves_some [_, _, _]

/-- Settles O10: the assembled words joined in R88's order, the bytes of REGWRITE by induction on their list. -/
theorem pseudoExpansions : Obligations.PseudoExpansions := by
  unfold Obligations.PseudoExpansions
  refine ⟨fun t w => expandExec_eq, fun b => rfl, fun sa ra bytes hsa hra hlen => ?_,
    fun sa ra n => expand_regRead, rfl⟩
  rw [expand_regWrite hsa hra hlen, fillTx_eq_map]
  simp only [Nat.zero_add]

/-! What the Sequencer makes of an illegal word, and POLL (R83, R87). -/

/-- The dispatch of a word is the dispatch step, in the state the move is taken in (R22, R172). -/
theorem step_dispatching {s s' : State} (h : Dispatching s s') : step s = dispatchStep s' := by
  obtain ⟨hm, hr, hrun, hu⟩ := h
  obtain ⟨hs, a, rfl⟩ := step_of_nextMove hm
  rw [hs]
  exact (blockStep_sequencer (s := { s with agenda := a }) hr (sequencerEnabled_of_dispatch hrun hu)).trans
    (sequencerStep_dispatch hu)

/-- A command that completes with its counters cleared leaves OP and the code in RESULT (R51, R186). -/
theorem complete_clearCounters (c : ResultCode) (s : State) :
    complete c (clearCounters s) = refused c.code.toNat s := by
  have hres : resultWord (Word.op s.cmd) 0#4 0#9 0#2 c =
      BitVec.ofNat 32 (s.cmd.toNat % 16 * 2 ^ 24 + c.code.toNat) := by
    apply BitVec.eq_of_toNat_eq
    rw [toNat_resultWord, toNat_op, BitVec.toNat_ofNat, BitVec.toNat_ofNat, BitVec.toNat_ofNat, BitVec.toNat_ofNat]
    omega
  rw [refused, ← hres]
  rfl

/-- Settles O8: R83's words are those `decode` refuses, and a refused word completes with the counters cleared. -/
theorem illegalCommandCompletes : Obligations.IllegalCommandCompletes := by
  unfold Obligations.IllegalCommandCompletes
  intro s s' hd hill
  obtain ⟨e, he⟩ := decode_error_iff.2 hill
  have hstep := step_dispatching hd
  obtain ⟨-, a, rfl⟩ := step_of_nextMove hd.1
  rw [hstep, dispatchStep, he]
  exact congrArg Host.Outcome.next (complete_clearCounters .illegalCommand _)

/-- Settles O19: bit 0 of the STATUS word read is RUN (`statusFields`), on which POLL decides. -/
theorem pollWaitsForRun : Obligations.PollWaitsForRun := by
  unfold Obligations.PollWaitsForRun
  intro s s' hr hm
  obtain ⟨hs, a, rfl⟩ := step_of_nextMove hm
  obtain ⟨hfields, -⟩ := statusFields
  obtain ⟨hbit, -⟩ := hfields s
  have hval : hostValue { s with agenda := a } statusOff = s.statusWord := if_pos hr
  rw [hs, doMove, pollOnce, hval]
  simp only [hbit]
  exact ⟨fun hrun => by rw [hrun]; rfl, fun hrun => by rw [hrun]; rfl⟩

end Sys2Proof.Machine

/-! The clock tick source (R101–R108): the divisor, the tick event, the clock cycles that make one, and who writes the
lines. -/

namespace Sys2Proof.Machine

open Sys2Proof.Claims

/-! The divisor (R101). -/

/-- The ceiling of a quotient, for a positive dividend, by its two bounds (R9). -/
theorem ceilDiv_eq_iff {x y d : Nat} (hx : 0 < x) (hy : 0 < y) : ceilDiv x y = d ↔ x ≤ y * d ∧ y * (d - 1) < x := by
  rw [ceilDiv, Nat.div_eq_iff hy, Nat.mul_comm d]
  cases d with
  | zero => omega
  | succ d => rw [Nat.add_sub_cancel, Nat.mul_succ]; omega

/-- A supported frequency is not 0, and its divisor is the ceiling, within its bounds. -/
theorem divisor_eq_some_iff {p : Params} {f : BitVec 24} {d : Nat} :
    divisor p f = some d ↔ f ≠ 0#24 ∧ p.divMin ≤ d ∧ d ≤ p.divMax ∧ ceilDiv p.fTclk (2 * f.toNat) = d := by
  unfold divisor
  by_cases hf : f = 0#24
  · simp [hf]
  · simp only [hf, if_false, Option.ite_none_left_eq_some, Option.some.injEq]
    constructor
    · rintro ⟨hb, rfl⟩
      exact ⟨hf, by omega, by omega, rfl⟩
    · rintro ⟨-, hmin, hmax, rfl⟩
      exact ⟨by omega, rfl⟩

/-- Settles O20: a divisor is the ceiling within its bounds, and the two inequalities determine the ceiling. -/
theorem divisorArithmetic : Obligations.DivisorArithmetic := by
  refine ⟨fun p f d hp => ?_, fun p hf hmin hmax => ?_⟩
  · rw [divisor_eq_some_iff]
    refine and_congr_right fun hf => and_congr_right fun _ => and_congr_right fun _ => ?_
    have hpos : 0 < f.toNat := Nat.pos_of_ne_zero fun h0 => hf (BitVec.eq_of_toNat_eq h0)
    exact ceilDiv_eq_iff hp (by omega)
  · simp only [divisor_eq_some_iff, hf, hmin, hmax]
    decide

/-! The tick event (R104). -/

theorem saturatingSucc_eq (n : BitVec 16) :
    saturatingSucc n = if n = 0xFFFF#16 then 0xFFFF#16 else n + 1#16 := by
  unfold saturatingSucc
  split
  case isTrue h => exact h
  case isFalse => rfl

/-- Settles O36: a block move with only the tick enabled is the tick's expiry, held or inverting. -/
theorem tickEvent : Obligations.TickEvent := by
  unfold Obligations.TickEvent
  intro s s' hm htick
  obtain ⟨-, hr, he, hq⟩ := htick
  have hstep := (sequencerBeforeTick s s' hm hr).2.1 hq he
  obtain ⟨-, a, rfl⟩ := step_of_nextMove hm
  rw [hstep]
  refine ⟨fun ⟨hp, hs⟩ => ?_, fun h => ?_⟩
  · rw [← saturatingSucc_eq]
    exact congrArg Host.Outcome.next (tickExpiry_held (s := { s with agenda := a }) hp hs)
  · exact congrArg Host.Outcome.next (tickExpiry_inverts (s := { s with agenda := a }) h)

/-! The clock cycles between two ticks (R103). -/

section
variable {s t u : State} {rest : List Move}

/-- A run of a given number of steps ends in one state. -/
theorem runsTo_unique {k : Nat} (ht : runsTo k s t) (hu : runsTo k s u) : t = u :=
  Host.Outcome.next.inj (((runsTo_iff_run k s t).1 ht).symm.trans ((runsTo_iff_run k s u).1 hu))

theorem clkStep_counts (hr : s.rstN = true) (he : s.enabled = true) (hlt : s.tcnt.toNat + 1 < s.div.toNat) :
    clkStep s = { s with tcnt := s.tcnt + 1#32 } := by
  simp [clkStep, hr, he, hlt]

theorem clkStep_expires (ht : TickMoves s .clk) (hge : s.div.toNat ≤ s.tcnt.toNat + 1) : clkStep s = tickExpiry s := by
  obtain ⟨-, hr, he, hq⟩ := ht
  simp [clkStep, hr, he, hq, Nat.not_lt.2 hge]

/-- A cycle before the last one counts. -/
theorem step_clk_counts (hr : s.rstN = true) (he : s.enabled = true) {c : BitVec 32} (hlt : c.toNat + 1 < s.div.toNat) :
    step { s with tcnt := c, agenda := .clk :: rest } = .next { s with tcnt := c + 1#32, agenda := rest } := by
  rw [step_of_cons rfl]
  exact congrArg Host.Outcome.next (clkStep_counts (s := { s with tcnt := c, agenda := rest }) hr he hlt)

/-- The cycle that reaches the divisor is the tick event, the counter back at 0. -/
theorem step_clk_expires (ht : TickMoves s .clk) {c : BitVec 32} (hge : s.div.toNat ≤ c.toNat + 1) :
    step { s with tcnt := c, agenda := .clk :: rest } = .next (tick { s with tcnt := 0#32, agenda := rest }) := by
  rw [step_of_cons rfl]
  exact congrArg Host.Outcome.next (clkStep_expires (s := { s with tcnt := c, agenda := rest }) ht hge)

/-- Cycles that stay below the divisor only count. -/
theorem runsTo_clk_counts (hr : s.rstN = true) (he : s.enabled = true) {c n : Nat} (hlt : c + n < s.div.toNat) :
    runsTo n { s with tcnt := BitVec.ofNat 32 c, agenda := List.replicate n .clk ++ rest }
      { s with tcnt := BitVec.ofNat 32 (c + n), agenda := rest } := by
  induction n generalizing c with
  | zero => exact runsTo_zero.2 rfl
  | succ n ih =>
    have hlt' : (BitVec.ofNat 32 c).toNat + 1 < s.div.toNat := by rw [BitVec.toNat_ofNat]; omega
    have hstep : step { s with tcnt := BitVec.ofNat 32 c, agenda := List.replicate (n + 1) .clk ++ rest } =
        .next { s with tcnt := BitVec.ofNat 32 (c + 1), agenda := List.replicate n .clk ++ rest } := by
      rw [BitVec.ofNat_add]
      exact step_clk_counts hr he hlt'
    rw [← Nat.succ_add_eq_add_succ c n] at hlt ⊢
    exact runsTo_succ.2 ⟨_, hstep, ih hlt⟩

/-- As many cycles as the divisor says, from a counter of 0, are the tick event. -/
theorem runsTo_clk_tick (ht : TickMoves s .clk) (hdiv : 0 < s.div.toNat) :
    runsTo s.div.toNat { s with tcnt := 0#32, agenda := List.replicate s.div.toNat .clk ++ rest }
      (tick { s with tcnt := 0#32, agenda := rest }) := by
  obtain ⟨n, hn⟩ : ∃ n, s.div.toNat = n + 1 := Nat.exists_eq_succ_of_ne_zero (Nat.ne_of_gt hdiv)
  have hcount : runsTo n { s with tcnt := 0#32, agenda := List.replicate n .clk ++ .clk :: rest }
      { s with tcnt := BitVec.ofNat 32 n, agenda := .clk :: rest } := by
    obtain ⟨-, hr, he, -⟩ := ht
    have h := runsTo_clk_counts (rest := .clk :: rest) hr he (c := 0) (n := n) (by omega)
    rwa [Nat.zero_add] at h
  have hge : s.div.toNat ≤ (BitVec.ofNat 32 n).toNat + 1 := by rw [BitVec.toNat_ofNat]; omega
  rw [hn, List.replicate_succ', List.append_assoc]
  exact runsTo_add hcount (runsTo_succ.2 ⟨_, step_clk_expires ht hge, rfl⟩)

end

/-- Settles O37: the cycles before the last count by induction, the last one is the tick, and a run is deterministic. -/
theorem clockCyclesMakeTick : Obligations.ClockCyclesMakeTick := by
  unfold Obligations.ClockCyclesMakeTick
  intro s n ht hzero hlt
  refine ⟨fun rest ha => ?_, fun rest t ha => ?_⟩
  · obtain ⟨-, hr, he, -⟩ := ht
    have hcount := runsTo_clk_counts (rest := rest) hr he (c := 0) (n := n) (by omega)
    rwa [Nat.zero_add, ← ha, show BitVec.ofNat 32 0 = s.tcnt from hzero.symm] at hcount
  · have htick := runsTo_clk_tick (rest := rest) ht (by omega)
    rw [← ha, ← hzero] at htick
    exact ⟨fun h => runsTo_unique h htick, fun h => h ▸ htick⟩

/-! Who writes the phase, SCL and SDA (R108). -/

section
variable {s t u : State}

/-- The phase and the two line outputs are the same in `s` and `t`. -/
structure KeptLines (s t : State) : Prop where
  phase  : t.phase = s.phase
  sclO   : t.sclO = s.sclO
  sdaDrv : t.sdaDrv = s.sdaDrv

/-- What a routine does to SCL: it keeps the output and the clock, or leaves the clock off. -/
def SclKeptOrOff (s t : State) : Prop := (t.sclO = s.sclO ∧ t.enabled = s.enabled) ∨ t.enabled = false

theorem SclKeptOrOff.trans (h : SclKeptOrOff s t) (k : SclKeptOrOff t u) : SclKeptOrOff s u := by
  rcases k with ⟨hscl, he⟩ | hoff
  · rcases h with ⟨hscl', he'⟩ | hoff'
    · exact .inl ⟨hscl.trans hscl', he.trans he'⟩
    · exact .inr (he.trans hoff')
  · exact .inr hoff

theorem frameAcked_scl (f : Frame) (s : State) : SclKeptOrOff s (frameAcked f s) := by
  rcases f with _ | _ | (_ | _) | _ <;> simp only [frameAcked]
  case restartAddr.read => unfold beginPayloadRead; simp only; split <;> exact .inl ⟨rfl, rfl⟩
  case payload => split <;> exact .inl ⟨rfl, rfl⟩
  all_goals exact .inl ⟨rfl, rfl⟩

theorem frameNacked_scl (f : Frame) (s : State) : SclKeptOrOff s (frameNacked f s) := by
  rcases f with _ | _ | _ | _ <;> simp only [frameNacked]
  case payload => split <;> exact .inl ⟨rfl, rfl⟩
  all_goals exact .inl ⟨rfl, rfl⟩

/-- Of all awaits only the end of a stop writes SCL, with the clock off (R175). -/
theorem passAwait_scl (s : State) : SclKeptOrOff s (passAwait s) := by
  cases hu : s.upc with
  | stopHigh c => exact .inr (by simp [passAwait, hu])
  | ackEnd f =>
    simp only [passAwait, hu]
    split
    · exact frameAcked_scl f s
    · exact frameNacked_scl f s
  | rxLow k b => simp only [passAwait, hu, receivedBit]; split <;> exact .inl ⟨rfl, rfl⟩
  | mackEnd => simp only [passAwait, hu]; split <;> exact .inl ⟨rfl, rfl⟩
  | _ => exact .inl (by simp [passAwait, hu])

theorem runRoutine_scl (s : State) : SclKeptOrOff s (runRoutine s) := by
  rcases runRoutine_cases s with hr | hr | hr <;> rw [hr]
  · exact .inl ⟨rfl, rfl⟩
  · exact passAwait_scl s
  · exact (passAwait_scl s).trans (passAwait_scl _)

/-- What a Sequencer step from `s` to `t` does to the phase and to SCL (R108). -/
structure SequencerLines (s t : State) : Prop where
  phase : t.phase = s.phase ∨ (s.upc = .dispatch ∧ t.enabled = true)
  sclO  : t.sclO = s.sclO ∨ t.enabled = false

/-- The end of a command leaves the lines. -/
theorem complete_lines (c : ResultCode) (s : State) : SequencerLines s (complete c s) := ⟨.inl rfl, .inl rfl⟩

theorem SclKeptOrOff.lines (h : SclKeptOrOff s t) (hk : KeptByRoutine s t) : SequencerLines s t :=
  ⟨.inl hk.phase, h.imp_left And.left⟩

theorem runRoutine_lines (s : State) : SequencerLines s (runRoutine s) := (runRoutine_scl s).lines (runRoutine_kept s)

/-- A routine begun with the lines as they are. -/
theorem SequencerLines.of_eq {a : State} (h : SequencerLines a t) (hp : a.phase = s.phase) (hs : a.sclO = s.sclO)
    (hu : a.upc ≠ .dispatch) : SequencerLines s t :=
  ⟨.inl ((h.phase.resolve_right fun hd => hu hd.1).trans hp), h.sclO.imp_left fun hk => hk.trans hs⟩

/-- A dispatch that changes the phase enables the clock (R105), and one that changes SCL leaves it off (R106). -/
theorem exec_lines {i : Instr} (hu : s.upc = .dispatch) (h : exec i s = .next t) : SequencerLines s t := by
  cases i with
  | init f =>
    rcases execInit_cases h with ⟨-, rfl⟩ | ⟨-, d, -, rfl⟩ | ⟨-, -, rfl⟩
    · exact complete_lines _ _
    · exact ⟨.inl rfl, .inr rfl⟩
    · exact ⟨.inl rfl, .inr rfl⟩
  | beginTx sa ra md =>
    rcases execBegin_cases h with ⟨-, rfl⟩ | ⟨-, -, rfl⟩ | ⟨-, -, rfl⟩
    · exact complete_lines _ _
    · exact complete_lines _ _
    · exact ⟨.inr ⟨hu, rfl⟩, .inl rfl⟩
  | rstart sa md =>
    rcases execRstart_cases h with ⟨-, rfl⟩ | ⟨-, rfl⟩
    · exact complete_lines _ _
    · exact (runRoutine_lines _).of_eq rfl rfl (by simp)
  | write n =>
    rcases execWrite_cases h with ⟨-, rfl⟩ | ⟨-, -, rfl⟩ | ⟨-, -, rfl⟩
    · exact complete_lines _ _
    · exact ⟨.inl rfl, .inl rfl⟩
    · exact (runRoutine_lines _).of_eq rfl rfl (by simp)
  | read n cap =>
    rcases execRead_cases h with ⟨-, rfl⟩ | ⟨-, -, rfl⟩ | ⟨-, -, rfl⟩
    · exact complete_lines _ _
    · exact complete_lines _ _
    · exact (runRoutine_lines _).of_eq rfl rfl (by simp)
  | endTx =>
    rcases execEnd_cases h with ⟨-, rfl⟩ | ⟨-, rfl⟩
    · exact complete_lines _ _
    · exact (runRoutine_lines _).of_eq rfl rfl (by simp)

/-- A Sequencer step writes the phase only in a dispatch that enables the clock, and SCL only by disabling it. -/
theorem sequencerStep_lines (h : sequencerStep s = .next t) : SequencerLines s t := by
  rcases sequencerStep_cases h with ⟨-, -, rfl⟩ | ⟨hu, i, -, he⟩ | ⟨-, rfl | ⟨-, rfl⟩⟩ | ⟨-, -, rfl⟩
  · exact ⟨.inl rfl, .inl rfl⟩
  · obtain ⟨hp, hs⟩ := exec_lines (s := clearCounters s) hu he
    exact ⟨hp, hs⟩
  · exact (passAwait_scl s).lines (passAwait_kept s)
  · exact ((passAwait_scl s).trans (passAwait_scl _)).lines ((passAwait_kept s).trans (passAwait_kept _))
  · exact ⟨.inl rfl, .inr rfl⟩

/-- A register write of the host leaves the lines (R108). -/
theorem regWrite_lines (v : Word) (s : State) (r : HostReg) : KeptLines s (regWrite v s r) := by
  rcases regWrite_cases v s r with
    hw | ⟨-, -, hw⟩ | ⟨-, -, hw⟩ | ⟨-, -, hw⟩ | ⟨-, hw⟩ | ⟨i, -, hw⟩ <;> rw [hw] <;> exact ⟨rfl, rfl, rfl⟩

/-- Every step but reset is the Sequencer's, is a tick, which leaves SDA, or leaves the lines. -/
theorem step_lines {s' : State} {m : Move} (hm : nextMove s = (m, s')) (ht : step s = .next t) (hr : m ≠ .rst false) :
    (SequencerMoves s m ∧ sequencerStep s' = .next t) ∨ (TickMoves s m ∧ t.sdaDrv = s.sdaDrv) ∨ KeptLines s t := by
  obtain ⟨hs, a, rfl⟩ := step_of_nextMove hm
  rw [hs] at ht
  cases m with
  | block =>
    rcases blockStep_cases ht with ⟨-, rfl⟩ | ⟨hn, hq, hx⟩ | ⟨hn, hq, he, rfl⟩ | ⟨-, -, -, rfl⟩
    · exact .inr (.inr ⟨rfl, rfl, rfl⟩)
    · exact .inl ⟨⟨rfl, hn, hq⟩, hx⟩
    · exact .inr (.inl ⟨⟨.inl rfl, hn, he, hq⟩, by rw [tickExpiry_eq]⟩)
    · exact .inr (.inr ⟨rfl, rfl, rfl⟩)
  | clk =>
    cases ht
    rcases clkStep_cases { s with agenda := a } with hc | ⟨-, -, -, hc⟩ | ⟨hn, he, hq, hc⟩ <;> rw [hc]
    · exact .inr (.inr ⟨rfl, rfl, rfl⟩)
    · exact .inr (.inr ⟨rfl, rfl, rfl⟩)
    · exact .inr (.inl ⟨⟨.inr rfl, hn, he, hq⟩, by rw [tickExpiry_eq]⟩)
  | hostRead off => cases ht; exact .inr (.inr ⟨rfl, rfl, rfl⟩)
  | hostWrite off v =>
    cases ht
    unfold hostStore
    split
    · obtain ⟨hp, hscl, hsda⟩ := regWrite_lines v { s with agenda := a } (hostReg off)
      exact .inr (.inr ⟨hp, hscl, hsda⟩)
    · exact .inr (.inr ⟨rfl, rfl, rfl⟩)
  | poll =>
    cases ht
    unfold pollOnce
    simp only
    split <;> exact .inr (.inr ⟨rfl, rfl, rfl⟩)
  | env sda scl => cases ht; exact .inr (.inr ⟨rfl, rfl, rfl⟩)
  | rst level =>
    cases level with
    | true => cases ht; exact .inr (.inr ⟨rfl, rfl, rfl⟩)
    | false => exact absurd rfl hr

end

/-- Settles O40: a step is the Sequencer's, a tick, reset, or leaves the lines; the Sequencer writes the phase by enabling
the clock and SCL by disabling it. -/
theorem lineWriters : Obligations.LineWriters := by
  unfold Obligations.LineWriters
  intro s s' t m hm ht
  by_cases hr : m = .rst false
  · simp [hr]
  have hlines := step_lines hm ht hr
  obtain ⟨-, a, rfl⟩ := step_of_nextMove hm
  rcases hlines with ⟨hseq, hx⟩ | ⟨htick, hsda⟩ | hk
  · obtain ⟨hp, hs⟩ := sequencerStep_lines hx
    exact ⟨fun hne => .inr (.inr ⟨hseq, hp.resolve_left hne⟩), fun hne => .inr (.inr ⟨hseq, hs.resolve_left hne⟩),
      fun _ => .inr hseq⟩
  · exact ⟨fun _ => .inr (.inl htick), fun _ => .inr (.inl htick), fun hne => absurd hsda hne⟩
  · exact ⟨fun hne => absurd hk.phase hne, fun hne => absurd hk.sclO hne, fun hne => absurd hk.sdaDrv hne⟩

end Sys2Proof.Machine

/-! The lines as open-drain signals (R121, R124): a pull is on by the driver's state alone, and a line is high when neither
its pad nor the environment pulls it. -/

namespace Sys2Proof.Machine

theorem sdaPull_iff (s : State) : s.sdaPull = true ↔ s.sdaDrv = .low := beq_iff_eq

theorem sclPull_iff (s : State) : s.sclPull = true ↔ s.sclO = false := by rw [State.sclPull, Bool.not_eq_true']

theorem sdaIn_iff (s : State) : s.sdaIn = true ↔ s.sdaDrv ≠ .low ∧ s.eSdaLow = false := by
  rw [State.sdaIn, Bool.and_eq_true, Bool.not_eq_true', Bool.not_eq_true', ← Bool.not_eq_true s.sdaPull, sdaPull_iff]

theorem sclIn_iff (s : State) : s.sclIn = true ↔ s.sclO = true ∧ s.eSclLow = false := by
  rw [State.sclIn, Bool.and_eq_true, Bool.not_eq_true', Bool.not_eq_true', ← Bool.not_eq_true s.sclPull, sclPull_iff,
    Bool.not_eq_false]

/-- Settles O39: the levels and pulls by the lines' own rules; the move of an Environment step sets the pulls (R27). -/
theorem linesAndEnvironment : Obligations.LinesAndEnvironment := by
  unfold Obligations.LinesAndEnvironment
  refine ⟨fun s => ⟨sdaIn_iff s, sclIn_iff s, sdaPull_iff s, sclPull_iff s⟩, fun s s' a b hm => ?_⟩
  obtain ⟨hs, -⟩ := step_of_nextMove hm
  rw [hs, doMove]

end Sys2Proof.Machine

/-! SDA while SCL is high (R148): at phase 1 the Sequencer passes only awaits for HIGH, and of those only the repeated
start's pull and the stop's release drive SDA to another level. -/

namespace Sys2Proof.Machine

open Sys2Proof.Claims

section
variable {s t : State}

theorem sdaIn_congr (hdrv : t.sdaDrv = s.sdaDrv) (henv : t.eSdaLow = s.eSdaLow) : t.sdaIn = s.sdaIn := by
  rw [State.sdaIn, State.sdaIn, State.sdaPull, State.sdaPull, hdrv, henv]

/-! The awaited levels by the phase (R9). -/

theorem holds_low (hp : s.phase = false) : s.holds .low = true := by rw [State.holds, State.isLow, hp, Bool.not_false]

theorem not_holds_low (hp : s.phase = true) : s.holds .low = false := by rw [State.holds, State.isLow, hp, Bool.not_true]

theorem not_holds_high (hp : s.phase = false) : s.holds .high = false := by
  rw [State.holds, State.isHigh, hp, Bool.false_and]

/-- At phase 1 an await for LOW is not passed. -/
theorem not_canPass_low_of_phase (hl : s.upc.awaits = some .low) (hp : s.phase = true) : s.canPass = false :=
  not_canPass_of_level hl (not_holds_low hp)

/-- What is passed at phase 1 is an await for HIGH. -/
theorem awaits_high_of_canPass (h : s.canPass = true) (hp : s.phase = true) : s.upc.awaits = some .high := by
  obtain ⟨l, hl, -⟩ := canPass_awaits h
  cases l with
  | high => exact hl
  | low => cases (not_canPass_low_of_phase hl hp).symm.trans h

/-- At phase 1 no second await is passed in the same step. -/
theorem not_canPass_after_phase_high (h : s.canPass = true) (hp : s.phase = true) : (passAwait s).canPass = false := by
  rcases passAwait_after_high (awaits_high_of_canPass h hp) with hlow | hrun
  · exact not_canPass_low_of_phase hlow ((passAwait_kept s).phase.trans hp)
  · exact canPass_of_not_running hrun

theorem runRoutine_of_phase_high (h : s.canPass = true) (hp : s.phase = true) : runRoutine s = passAwait s :=
  runRoutine_once h (not_canPass_after_phase_high h hp)

/-- The samples find SDA released already, so an await for HIGH leaves SDA, but for the repeated start and the stop. -/
theorem passAwait_high_sdaDrv (hr : routineOk s = true) (hl : s.upc.awaits = some .high)
    (hrs : ∀ r, s.upc ≠ .rsHigh r) (hstop : ∀ c, s.upc ≠ .stopHigh c) : (passAwait s).sdaDrv = s.sdaDrv := by
  cases hu : s.upc with
  | rsHigh r => exact absurd hu (hrs r)
  | stopHigh c => exact absurd hu (hstop c)
  | ackHigh f =>
    obtain ⟨-, -, hreleased⟩ := (routineOk_ackHigh hu).1 hr
    simp [passAwait, hu, hreleased]
  | rxHigh k =>
    obtain ⟨-, hreleased⟩ := (routineOk_rxHigh hu).1 hr
    simp [passAwait, hu, hreleased]
  | bitHigh f k => simp [passAwait, hu]
  | mackHigh => simp [passAwait, hu]
  | _ => simp [hu, Upc.awaits] at hl

/-- A routine begun at an await for LOW stands still at phase 1. -/
theorem runRoutine_low_sdaDrv (hl : s.upc.awaits = some .low) (hp : s.phase = true) :
    (runRoutine s).sdaDrv = s.sdaDrv := by
  rw [runRoutine_blocked (not_canPass_low_of_phase hl hp)]

/-- In a transaction no command's dispatch part drives SDA at phase 1: INIT and BEGIN are refused, the routines of the
others begin with an await for LOW. -/
theorem exec_sdaDrv_of_phase {i : Instr} (hst : s.state ≠ .idle) (hp : s.phase = true) (h : exec i s = .next t) :
    t.sdaDrv = s.sdaDrv := by
  cases i with
  | init f =>
    rcases execInit_cases h with ⟨-, rfl⟩ | ⟨hidle, -⟩ | ⟨hidle, -⟩
    · rfl
    · exact absurd hidle hst
    · exact absurd hidle hst
  | beginTx sa ra md =>
    rcases execBegin_cases h with ⟨-, rfl⟩ | ⟨-, -, rfl⟩ | ⟨-, hidle, -⟩
    · rfl
    · rfl
    · exact absurd hidle hst
  | rstart sa md =>
    rcases execRstart_cases h with ⟨-, rfl⟩ | ⟨-, rfl⟩
    · rfl
    · exact runRoutine_low_sdaDrv rfl hp
  | write n =>
    rcases execWrite_cases h with ⟨-, rfl⟩ | ⟨-, -, rfl⟩ | ⟨-, -, rfl⟩
    · rfl
    · rfl
    · exact runRoutine_low_sdaDrv rfl hp
  | read n cap =>
    rcases execRead_cases h with ⟨-, rfl⟩ | ⟨-, -, rfl⟩ | ⟨-, -, rfl⟩
    · rfl
    · rfl
    · exact runRoutine_low_sdaDrv rfl hp
  | endTx =>
    rcases execEnd_cases h with ⟨-, rfl⟩ | ⟨-, rfl⟩
    · rfl
    · exact runRoutine_low_sdaDrv rfl hp

/-- A Sequencer step is enabled at an await that does not hold only by the timeout (R22). -/
theorem blocked_and_timedOut (hq : s.sequencerEnabled = true) {l : Level} (hl : s.upc.awaits = some l)
    (hp : s.canPass = false) : s.blocked = true ∧ s.timedOut = true := by
  simp only [State.sequencerEnabled, State.blocked, State.canPass, hl, Bool.and_eq_true] at hq hp ⊢
  simp_all

/-- A Sequencer step in a transaction leaves SDA at phase 1, but for the three deliberate conditions (R148). -/
theorem sequencerStep_sdaDrv (hr : routineOk s = true) (hst : s.state ≠ .idle) (hp : s.phase = true)
    (hq : s.sequencerEnabled = true) (h : sequencerStep s = .next t) :
    t.sdaDrv = s.sdaDrv ∨ (∃ r, s.upc = .rsHigh r) ∨ (∃ c, s.upc = .stopHigh c) ∨
      (s.blocked = true ∧ s.timedOut = true) := by
  rcases sequencerStep_cases h with ⟨-, -, rfl⟩ | ⟨-, i, -, he⟩ | ⟨hpass, hone | ⟨htwo, -⟩⟩ | ⟨hpass, ⟨l, hl⟩, -⟩
  · exact .inl rfl
  · exact .inl (exec_sdaDrv_of_phase (s := clearCounters s) hst hp he)
  · by_cases hrs : ∃ r, s.upc = .rsHigh r
    · exact .inr (.inl hrs)
    by_cases hstop : ∃ c, s.upc = .stopHigh c
    · exact .inr (.inr (.inl hstop))
    rw [hone]
    exact .inl (passAwait_high_sdaDrv hr (awaits_high_of_canPass hpass hp) (not_exists.1 hrs) (not_exists.1 hstop))
  · cases (not_canPass_after_phase_high hpass hp).symm.trans htwo
  · exact .inr (.inr (.inr (blocked_and_timedOut hq hl hpass)))

end

/-- Settles O56: only the Sequencer writes SDA, and at phase 1 only by the repeated start, the stop or the timeout. -/
theorem sdaStableWhileSclHigh : Obligations.SdaStableWhileSclHigh := by
  unfold Obligations.SdaStableWhileSclHigh
  intro s s' t m hinv hm ht hr hes het hen hne
  have hmoved : t.sdaDrv ≠ s.sdaDrv := fun hk => hne (sdaIn_congr hk (het.trans hes.symm))
  have hlines := step_lines hm ht hr
  obtain ⟨-, a, rfl⟩ := step_of_nextMove hm
  rcases hlines with ⟨hseq, hx⟩ | ⟨-, hk⟩ | hk
  · refine ⟨hseq, ?_⟩
    cases hp : s.phase with
    | false => exact .inl rfl
    | true =>
      obtain ⟨-, -, hq⟩ := hseq
      have hinv' : MachineInv { s with agenda := a } := hinv.update hinv.base
      obtain ⟨⟨-, ⟨hidle, -⟩, -⟩, hroutine⟩ := machineInv_iff.1 hinv'
      have hcases := sequencerStep_sdaDrv hroutine (hidle.1 hen) hp hq hx
      exact .inr (hcases.resolve_left hmoved)
  · exact absurd hk hmoved
  · exact absurd hk.sdaDrv hmoved

end Sys2Proof.Machine

/-! A routine with SCL not held: every tick inverts the phase, and an await comes to hold one tick after the step that
reached it (R104, R140, R263). -/

namespace Sys2Proof.Machine

open Sys2Proof.Claims

/-- A command runs with the clock on and the start latched, SCL follows the phase, and no hold is pending (R44, R140). -/
structure Clocked (s : State) : Prop where
  rstN    : s.rstN = true
  run     : s.run = true
  enabled : s.enabled = true
  scla    : s.scla = true
  sclO    : s.sclO = s.phase
  bound   : s.stretchCnt < s.tolim

/-- What a tick that is not held leaves, with the start latched (R104). -/
def unheldTick (s : State) : State :=
  { s with phase := !s.phase, sclO := !s.phase, stretchCnt := 0#16, tcnt := 0#32 }

section
variable {s s' : State} {l : Level} {ms : List Move}

theorem nextMove_of_nil (h : s.agenda = []) : nextMove s = (.block, s) := by simp [nextMove, h]

theorem nextMove_of_cons {m : Move} (h : s.agenda = m :: ms) : nextMove s = (m, { s with agenda := ms }) := by
  simp [nextMove, h]

/-- A tick keeps the clock running, its bound of held ticks being positive. -/
theorem Clocked.next_phase (h : Clocked s) : Clocked (unheldTick s) :=
  ⟨h.rstN, h.run, h.enabled, h.scla, rfl, BitVec.lt_def.2 (Nat.zero_lt_of_lt (BitVec.lt_def.1 h.bound))⟩

theorem Clocked.canPass (h : Clocked s) (hl : s.upc.awaits = some l) (hh : s.holds l = true) : s.canPass = true := by
  rw [State.canPass, h.run, hl, Bool.true_and]
  exact hh

/-- At an await that holds the block's move goes on with the routine. -/
theorem Clocked.step_passes (h : Clocked s) (hm : nextMove s = (.block, s')) (hl : s.upc.awaits = some l)
    (hh : s.holds l = true) : step s = .next (runRoutine s') := by
  have hp := h.canPass hl hh
  have hs := (sequencerBeforeTick s s' hm h.rstN).1 (sequencerEnabled_of_canPass hp)
  obtain ⟨-, a, rfl⟩ := step_of_nextMove hm
  rw [hs, sequencerStep_pass (s := { s with agenda := a }) hp]

/-- At an await that does not hold the block's move is a tick, which inverts unless SCL is held. -/
theorem Clocked.step_ticks (h : Clocked s) (hm : nextMove s = (.block, s')) (hl : s.upc.awaits = some l)
    (hh : s.holds l = false) (hscl : s.phase = false ∨ s.eSclLow = false) : step s = .next (unheldTick s') := by
  have hbound : s.timedOut = false := decide_eq_false (BitVec.not_le.2 h.bound)
  have hq := not_sequencerEnabled_of_blocked hl hh hbound
  have hin : s.phase = false ∨ s.sclIn = true := by
    rw [sclIn_iff, h.sclO]
    cases hp : s.phase with
    | false => exact .inl rfl
    | true => exact .inr ⟨rfl, hscl.resolve_left (by simp [hp])⟩
  have htick := (tickEvent s s' hm ⟨.inl rfl, h.rstN, h.enabled, hq⟩).2 hin
  obtain ⟨-, a, rfl⟩ := step_of_nextMove hm
  rw [htick, h.scla, h.sclO]
  rfl

theorem Clocked.holds_high (h : Clocked s) (hp : s.phase = true) (hscl : s.eSclLow = false) : s.holds .high = true := by
  have hin : s.sclIn = true := sclIn_iff s |>.2 ⟨h.sclO.trans hp, hscl⟩
  rw [State.holds, State.isHigh, hp, hin, Bool.and_self]

end
end Sys2Proof.Machine

/-! A frame on the wire (R144, R145): one bit in each low phase, most significant first. -/

namespace Sys2Proof.Machine

open Sys2Proof.Claims

/-! The byte of a frame as a number (R145). -/

theorem toNat_addrFrame (sa : BitVec 7) (m : Mode) : (addrFrame sa m).toNat = 2 * sa.toNat + m.bit.toNat := by
  have hsa : sa.toNat * 2 ^ 1 < 2 ^ 8 := by omega
  rw [addrFrame, BitVec.toNat_or, BitVec.toNat_shiftLeft, BitVec.toNat_setWidth, BitVec.toNat_setWidth,
    Nat.mod_eq_of_lt (a := sa.toNat) (by omega), Nat.mod_eq_of_lt (a := m.bit.toNat) (by omega), Nat.shiftLeft_eq,
    Nat.mod_eq_of_lt hsa, Nat.mul_comm, ← Nat.two_pow_add_eq_or_of_lt m.bit.isLt]

theorem toNat_mode_bit (m : Mode) : m.bit.toNat = if m = .read then 1 else 0 := by cases m <;> rfl

theorem frameNumber_eq (s : State) (f : Frame) : frameNumber s f = (f.byte s).toNat := by
  rcases f with _ | _ | (_ | _) | _ <;> simp only [frameNumber, Frame.byte, toNat_addrFrame, toNat_mode_bit, if_true]

section
variable {s t : State} {f : Frame} {k : Fin 8} {b : Byte}

/-- A frame's byte is read from the registers of the command and the byte in hand. -/
theorem Frame.byte_congr (f : Frame) (hsa : t.sa = s.sa) (hmode : t.mode = s.mode) (hra : t.ra = s.ra)
    (htxb : t.txb = s.txb) : f.byte t = f.byte s := by
  rcases f with _ | _ | (_ | _) | _ <;> simp only [Frame.byte, hsa, hmode, hra, htxb]

/-- In a low phase, with no input to come and SCL not held, frame `f` of byte `b` is about to drive bit `k`. -/
structure SendsBit (f : Frame) (k : Fin 8) (b : Byte) (s : State) : Prop where
  clocked : Clocked s
  phase   : s.phase = false
  agenda  : s.agenda = []
  eSclLow : s.eSclLow = false
  upc     : s.upc = .bitLow f k
  byte    : f.byte s = b

/-- Bit `k` is driven (R141). -/
def bitDriven (f : Frame) (k : Fin 8) (s : State) : State :=
  { driveSda (bitDrive ((f.byte s).getLsbD k.val)) s with
    state := if k = 7 then f.entered s else s.state
    upc := .bitHigh f k }

/-- Bit `k` has been on SDA with SCL high (R141). -/
def bitTaken (f : Frame) (k : Fin 8) (s : State) : State :=
  { s with upc := if k = 0 then .ackLow f else .bitLow f (nextBit k) }

theorem bitTaken_awaits (f : Frame) (k : Fin 8) (s : State) : (bitTaken f k s).upc.awaits = some .low := by
  unfold bitTaken
  simp only
  split <;> rfl

theorem SendsBit.step_drive (h : SendsBit f k b s) : step s = .next (bitDriven f k s) := by
  have hl : s.upc.awaits = some .low := by rw [h.upc]; rfl
  have hpass : passAwait s = bitDriven f k s := by simp only [passAwait, h.upc, bitDriven]
  have hp := h.clocked.canPass hl (holds_low h.phase)
  have h1 : (passAwait s).canPass = false := not_canPass_high_after_low hp hl (by rw [hpass]; rfl)
  rw [h.clocked.step_passes (nextMove_of_nil h.agenda) hl (holds_low h.phase), runRoutine_once hp h1, hpass]

/-- With the bit on SDA the clock runs on as before. -/
theorem SendsBit.clocked_driven (h : SendsBit f k b s) : Clocked (bitDriven f k s) := { h.clocked with }

theorem SendsBit.step_rise (h : SendsBit f k b s) :
    step (bitDriven f k s) = .next (unheldTick (bitDriven f k s)) :=
  h.clocked_driven.step_ticks (nextMove_of_nil h.agenda) (l := .high) rfl (not_holds_high h.phase) (.inl h.phase)

theorem SendsBit.step_take (h : SendsBit f k b s) :
    step (unheldTick (bitDriven f k s)) = .next (bitTaken f k (unheldTick (bitDriven f k s))) := by
  have hc := h.clocked_driven.next_phase
  have hphase : (unheldTick (bitDriven f k s)).phase = true := congrArg not h.phase
  have hh := hc.holds_high hphase h.eSclLow
  have hp := hc.canPass (l := .high) rfl hh
  rw [hc.step_passes (nextMove_of_nil h.agenda) (l := .high) rfl hh,
    runRoutine_of_phase_high hp hphase]
  rfl

/-- A bit takes four steps: drive, the rising tick, the await for HIGH, the falling tick; then the next bit is due. -/
theorem SendsBit.runsTo_next (h : SendsBit f k b s) (hk : k ≠ 0) :
    ∃ t, runsTo 4 s t ∧ SendsBit f (nextBit k) b t := by
  have hphase : (unheldTick (bitDriven f k s)).phase = true := congrArg not h.phase
  have hc : Clocked (bitTaken f k (unheldTick (bitDriven f k s))) := { h.clocked_driven.next_phase with }
  have hfall := hc.step_ticks (nextMove_of_nil h.agenda) (bitTaken_awaits _ _ _) (not_holds_low hphase) (.inr h.eSclLow)
  refine ⟨_, ⟨_, h.step_drive, _, h.step_rise, _, h.step_take, _, hfall, rfl⟩,
    hc.next_phase, congrArg not hphase, h.agenda, h.eSclLow, if_neg hk, ?_⟩
  rw [← h.byte]
  exact f.byte_congr rfl rfl rfl rfl

/-- After `n` bits the next one is bit `7 - n`. -/
theorem SendsBit.runsTo_bit (h : SendsBit f 7 b s) (n : Nat) (hn : n < 8) :
    ∃ t, runsTo (4 * n) s t ∧ SendsBit f ⟨7 - n, by omega⟩ b t := by
  induction n with
  | zero => exact ⟨s, rfl, h⟩
  | succ n ih =>
    obtain ⟨t, hrun, ht⟩ := ih (by omega)
    obtain ⟨u, hrun', hu⟩ := ht.runsTo_next (Fin.ne_of_val_ne (by simp only; omega))
    exact ⟨u, runsTo_add hrun hrun', hu⟩

end

/-- Settles O44: bit `7 - j` follows `j` bits of four steps each; the tick that raises SCL leaves SDA. -/
theorem frameDrivesMsbFirst : Obligations.FrameDrivesMsbFirst := by
  unfold Obligations.FrameDrivesMsbFirst
  intro f s j hr hrun he hscla hsclO hp ha hscl hbound hu
  have hstart : SendsBit f 7 (f.byte s) s :=
    ⟨⟨hr, hrun, he, hscla, hsclO.trans hp.symm, hbound⟩, hp, ha, hscl, hu, rfl⟩
  obtain ⟨t, hbits, ht⟩ := hstart.runsTo_bit j.val j.isLt
  have hindex : (7 - j : Fin 8) = ⟨7 - j.val, by omega⟩ := Fin.ext (Fin.sub_val_of_le (Fin.le_last j))
  rw [Nat.add_comm, hindex]
  refine ⟨_, _, runsTo_add hbits ⟨_, ht.step_drive, rfl⟩, rfl, ht.phase, ?_,
    ⟨_, ht.step_rise, _, ht.step_take, rfl⟩, congrArg not ht.phase, rfl⟩
  rw [frameNumber_eq, BitVec.testBit_toNat, ← ht.byte]
  rfl

end Sys2Proof.Machine

/-! A byte received (R142, R146, R150): one sample in each high phase, the first the most significant bit. -/

namespace Sys2Proof.Machine

open Sys2Proof.Claims

/-- The moves of `loopback` for the `n` bits of `b` still to come. -/
def bitMoves (b : Byte) : Nat → List Move
  | 0     => []
  | n + 1 => .env (!b.getLsbD n) false :: .block :: .block :: .block :: .block :: bitMoves b n

theorem loopback_eq (b : Byte) : loopback b = bitMoves b 8 := rfl

/-- Shifting in bit `n` of a byte, after the bits above it, gives the bits from `n` up (R146). -/
theorem shiftIn_ushiftRight (b : Byte) (n : Nat) : shiftIn (b >>> (n + 1)) (b.getLsbD n) = b >>> n := by
  apply BitVec.eq_of_getLsbD_eq
  intro i hi
  cases i with
  | zero => simp [shiftIn]
  | succ i => simp [shiftIn, hi, Nat.add_assoc, Nat.add_comm 1 i]

section
variable {s s' : State} {k : Fin 8} {bit : Bool} {b : Byte} {rest : List Move}

/-- In a high phase the sample is the environment's level, SDA being released (R122, R142). -/
theorem Clocked.step_sample (h : Clocked s) (hm : nextMove s = (.block, s')) (hu : s.upc = .rxHigh k)
    (hp : s.phase = true) (hscl : s.eSclLow = false) :
    step s = .next { driveSda .hiz s' with upc := .rxLow k (!s.eSdaLow) } := by
  have hl : s.upc.awaits = some .high := by rw [hu]; rfl
  have hh := h.holds_high hp hscl
  rw [h.step_passes hm hl hh]
  obtain ⟨-, a, rfl⟩ := step_of_nextMove hm
  rw [runRoutine_of_phase_high (s := { s with agenda := a }) (h.canPass hl hh) hp]
  simp [passAwait, hu, sampleSda, State.sdaIn, State.sdaPull]

/-- A bit that is not the last is shifted in, and the next sample waits for the next high phase (R146). -/
theorem Clocked.step_takeBit (h : Clocked s) (hm : nextMove s = (.block, s')) (hu : s.upc = .rxLow k bit)
    (hp : s.phase = false) (hk : k ≠ 0) :
    step s = .next { s' with rxb := shiftIn s.rxb bit, upc := .rxHigh (nextBit k) } := by
  have hl : s.upc.awaits = some .low := by rw [hu]; rfl
  rw [h.step_passes hm hl (holds_low hp)]
  obtain ⟨-, a, rfl⟩ := step_of_nextMove hm
  have hpass : passAwait { s with agenda := a } =
      { s with agenda := a, rxb := shiftIn s.rxb bit, upc := .rxHigh (nextBit k) } := by
    simp [passAwait, hu, receivedBit, hk]
  have hone : (passAwait { s with agenda := a }).canPass = false := by
    rw [hpass]
    exact not_canPass_of_level (l := .high) rfl (not_holds_high hp)
  rw [runRoutine_once (s := { s with agenda := a }) (h.canPass hl (holds_low hp)) hone, hpass]

/-- The last bit completes the byte: it is written and counted, and the master's acknowledgement is driven in the same low
phase (R146, R147, R180). -/
theorem Clocked.step_takeLastBit (h : Clocked s) (hm : nextMove s = (.block, s')) (hu : s.upc = .rxLow 0 bit)
    (hp : s.phase = false) :
    step s = .next { s' with
      rxb := shiftIn s.rxb bit, rxbuf := Memory.write s.rxbuf s.i.toNat (shiftIn s.rxb bit), xfer := s.i + 1#9
      sdaDrv := bitDrive s.nackBit, upc := .mackHigh } := by
  have hl : s.upc.awaits = some .low := by rw [hu]; rfl
  rw [h.step_passes hm hl (holds_low hp)]
  obtain ⟨-, a, rfl⟩ := step_of_nextMove hm
  have hpass : passAwait { s with agenda := a } =
      { writeRx s.i.toNat (shiftIn s.rxb bit) { s with agenda := a } with
        rxb := shiftIn s.rxb bit, xfer := s.i + 1#9, upc := .mackLow } := by
    simp [passAwait, hu, receivedBit, writeRx]
  have htwo : (passAwait { s with agenda := a }).canPass = true := by
    rw [hpass]
    exact Clocked.canPass { h with } (l := .low) rfl (holds_low hp)
  have hend : (passAwait (passAwait { s with agenda := a })).canPass = false := by
    rw [hpass]
    exact not_canPass_of_level (l := .high) rfl (not_holds_high hp)
  rw [runRoutine_twice (s := { s with agenda := a }) (h.canPass hl (holds_low hp)) htwo hend, hpass]
  rfl

/-- Bit `k` has been sampled as `bit`, and the low phase that takes it has begun; `rest` is still to come. -/
def sampled (k : Fin 8) (bit : Bool) (rest : List Move) (s : State) : State :=
  { s with
    eSdaLow := !bit, eSclLow := false, sdaDrv := .hiz, upc := .rxLow k bit
    stretchCnt := 0#16, tcnt := 0#32, agenda := rest }

/-- Bit `k`, not the last, has been received as `bit`; `rest` is still to come. -/
def bitReceived (k : Fin 8) (bit : Bool) (rest : List Move) (s : State) : State :=
  { sampled k bit rest s with rxb := shiftIn s.rxb bit, upc := .rxHigh (nextBit k) }

/-- Byte `b` has been received as byte `S.i`: written, counted, and the acknowledgement driven. -/
def byteReceived (b : Byte) (s : State) : State :=
  { s with
    eSdaLow := !b.getLsbD 0, eSclLow := false, sdaDrv := bitDrive s.nackBit, upc := .mackHigh
    rxb := b, rxbuf := Memory.write s.rxbuf s.i.toNat b, xfer := s.i + 1#9
    stretchCnt := 0#16, tcnt := 0#32, agenda := [] }

/-- A sample takes four moves: the environment's, the rising tick, the sample and the falling tick. -/
theorem Clocked.runsTo_sampled (h : Clocked s) (hp : s.phase = false) (hu : s.upc = .rxHigh k)
    (ha : s.agenda = .env (!bit) false :: .block :: .block :: .block :: rest) :
    runsTo 4 s (sampled k bit rest s) ∧ Clocked (sampled k bit rest s) := by
  have hl : s.upc.awaits = some .high := by rw [hu]; rfl
  have henv := linesAndEnvironment.2 s _ _ _ (nextMove_of_cons ha)
  have hlow : Clocked { s with eSdaLow := !bit, eSclLow := false, agenda := .block :: .block :: .block :: rest } :=
    { h with }
  have hrise := hlow.step_ticks (nextMove_of_cons rfl) hl (not_holds_high hp) (.inl hp)
  have hhigh : Clocked (unheldTick { s with eSdaLow := !bit, eSclLow := false, agenda := .block :: .block :: rest }) :=
    { hlow.next_phase with }
  have hsample := hhigh.step_sample (nextMove_of_cons rfl) hu (congrArg not hp) rfl
  have hheld : Clocked { driveSda .hiz (unheldTick { s with
      eSdaLow := !bit, eSclLow := false, agenda := .block :: rest }) with upc := .rxLow k (!!bit) } := { hhigh with }
  have hfall := hheld.step_ticks (nextMove_of_cons rfl) (l := .low) rfl (not_holds_low (congrArg not hp)) (.inr rfl)
  have hend : unheldTick { driveSda .hiz (unheldTick { s with
      eSdaLow := !bit, eSclLow := false, agenda := rest }) with upc := .rxLow k (!!bit) } = sampled k bit rest s := by
    simp [unheldTick, driveSda, sampled, h.sclO]
  exact ⟨⟨_, henv, _, hrise, _, hsample, _, hfall, hend⟩, hend ▸ { hheld.next_phase with }⟩

/-- A bit that is not the last takes five moves. -/
theorem Clocked.runsTo_bitReceived (h : Clocked s) (hp : s.phase = false) (hu : s.upc = .rxHigh k) (hk : k ≠ 0)
    (ha : s.agenda = .env (!bit) false :: .block :: .block :: .block :: .block :: rest) :
    runsTo 5 s (bitReceived k bit rest s) ∧ Clocked (bitReceived k bit rest s) := by
  obtain ⟨hrun, hc⟩ := h.runsTo_sampled hp hu ha
  exact ⟨runsTo_add (j := 4) (k := 1) hrun ⟨_, hc.step_takeBit (nextMove_of_cons rfl) rfl hp hk, rfl⟩, { hc with }⟩

/-- The bits from `n` down, after those above, make the byte (R146, R150). -/
theorem Clocked.runsTo_byteReceived {n : Nat} {hn : n < 8} (h : Clocked s) (hp : s.phase = false)
    (hu : s.upc = .rxHigh ⟨n, hn⟩) (hrxb : s.rxb = b >>> (n + 1)) (ha : s.agenda = bitMoves b (n + 1)) :
    runsTo (5 * (n + 1)) s (byteReceived b s) := by
  induction n generalizing s with
  | zero =>
    obtain ⟨hrun, hc⟩ := h.runsTo_sampled hp hu ha
    have hbyte : shiftIn s.rxb (b.getLsbD 0) = b := by rw [hrxb, shiftIn_ushiftRight, BitVec.ushiftRight_zero]
    have htake := hc.step_takeLastBit (nextMove_of_cons rfl) rfl hp
    rw [show shiftIn (sampled _ _ _ s).rxb _ = b from hbyte] at htake
    exact runsTo_add (j := 4) (k := 1) hrun ⟨_, htake, rfl⟩
  | succ n ih =>
    obtain ⟨hrun, hc⟩ := h.runsTo_bitReceived hp hu (Fin.ne_of_val_ne (Nat.succ_ne_zero n)) ha
    have hbits : shiftIn s.rxb (b.getLsbD (n + 1)) = b >>> (n + 1) := by rw [hrxb, shiftIn_ushiftRight]
    have hall := runsTo_add hrun (ih (hn := by omega) hc hp rfl hbits rfl)
    rwa [Nat.add_comm] at hall

end

/-- Settles O45: eight samples make the byte; RXBUF's entry reads it and every other entry as before. -/
theorem loopbackReceivesByte : Obligations.LoopbackReceivesByte := by
  unfold Obligations.LoopbackReceivesByte
  intro b s hr hrun he hscla hsclO hp _ hbound hu hrxb ha
  have hc : Clocked s := ⟨hr, hrun, he, hscla, hsclO.trans hp.symm, hbound⟩
  have hempty : s.rxb = b >>> 8 := by rw [hrxb, BitVec.ushiftRight_eq_zero (Nat.le_refl 8)]
  refine ⟨byteReceived b s, hc.runsTo_byteReceived (n := 7) hp hu hempty (ha.trans (loopback_eq b)), rfl,
    readRx_writeRx_same s _ b, rfl, rfl, fun j hj => readRx_writeRx_other s hj b, ?_⟩
  change bitDrive s.nackBit = _
  by_cases hlast : s.i.toNat + 1 < s.count <;> simp [State.nackBit, bitDrive, hlast]

end Sys2Proof.Machine

/-! The dispatch of a command (R171, R172, R176–R181), and what its routine does in a low phase. -/

namespace Sys2Proof.Machine

open Sys2Proof.Claims

section
variable {s s' : State}

/-! The dispatch step (R172). -/

theorem dispatchStep_ok {i : Instr} (hi : decode s.cmd = .ok i) : dispatchStep s = exec i (clearCounters s) := by
  rw [dispatchStep, hi]

/-- The dispatch of a legal word is the command's own part, the counters cleared. -/
theorem step_exec {i : Instr} (h : Dispatching s s') (hi : decode s.cmd = .ok i) :
    step s = exec i (clearCounters s') := by
  have hstep := step_dispatching h
  obtain ⟨-, a, rfl⟩ := step_of_nextMove h.1
  exact hstep.trans (dispatchStep_ok (s := { s with agenda := a }) hi)

/-! A routine in a low phase (R10, R140). -/

theorem canPass_low (hrun : s.run = true) (hl : s.upc.awaits = some .low) (hp : s.phase = false) :
    s.canPass = true := by
  rw [State.canPass, hrun, hl, Bool.true_and]
  exact holds_low hp

/-- A routine begun at an await that only drives SDA passes it in a low phase, and nothing more. -/
theorem runRoutine_of_drives (hrun : s.run = true) (hd : s.upc.drives = true) :
    runRoutine s = if s.phase then s else passAwait s := by
  have hl := Upc.awaits_of_drives hd
  cases hp : s.phase with
  | true => exact runRoutine_blocked (not_canPass_low_of_phase hl hp)
  | false =>
    have hpass := canPass_low hrun hl hp
    exact runRoutine_once hpass (not_canPass_high_after_low hpass hl (passAwait_drives_awaits hd))

end

/-- Settles O11: the dispatch step is `step_exec`, whatever the word is. -/
theorem stepRunsDecoded : Obligations.StepRunsDecoded := fun _ _ _ => step_exec

/-- Settles O12: the accepted word is dispatched by the block's move that stands first on the agenda. -/
theorem fetchWordRunsNext : Obligations.FetchWordRunsNext := by
  unfold Obligations.FetchWordRunsNext
  intro s w i hw hi
  have hword : BitVec.ofNat 32 (w % 2 ^ 32) = BitVec.ofNat 32 w := by rw [Nat.mod_eq_of_lt hw]
  rw [State.withFetchWord, hword]
  exact step_exec ⟨nextMove_of_cons rfl, rfl, rfl, rfl⟩ hi

/-- Settles O13: the CMD word's write is `acceptCommand`, which decides on RUN. -/
theorem commandAcceptance : Obligations.CommandAcceptance := by
  unfold Obligations.CommandAcceptance
  intro s s' v hr hm
  have hstep := step_hostWrite hr hm
  obtain ⟨-, a, rfl⟩ := step_of_nextMove hm
  rw [hstep, hostReg_cmd_iff.2 rfl, regWrite, acceptCommand]
  exact ⟨fun hrun => congrArg _ (if_pos hrun), fun hrun => congrArg _ (if_neg (by simp [hrun]))⟩

/-! The commands that open a transaction or configure the clock end their dispatch part at once. -/

/-- Settles O21: INIT at Idle completes by the case of `divisor`. -/
theorem initConfigures : Obligations.InitConfigures := by
  unfold Obligations.InitConfigures
  intro f s hidle
  obtain ⟨t, ht⟩ := exec_next (.init f) s
  rw [ht]
  rcases execInit_cases ht with ⟨hst, -⟩ | ⟨-, d, hd, rfl⟩ | ⟨-, hd, rfl⟩
  · exact absurd hidle hst
  · refine ⟨fun d' hd' => ?_, fun hnone => ?_⟩
    · cases hd.symm.trans hd'
      rfl
    · cases hd.symm.trans hnone
  · refine ⟨fun d' hd' => ?_, fun _ => rfl⟩
    cases hd.symm.trans hd'

/-- Settles O22: after the start condition the clock is at phase 1, and the first bit's await for LOW is not passed. -/
theorem beginOpensTransaction : Obligations.BeginOpensTransaction := by
  unfold Obligations.BeginOpensTransaction
  intro sa ra m s hconf hidle
  obtain ⟨t, ht⟩ := exec_next (.beginTx sa ra m) s
  rw [ht]
  rcases execBegin_cases ht with ⟨hno, -⟩ | ⟨-, hst, -⟩ | ⟨-, -, rfl⟩
  · cases hconf.symm.trans hno
  · exact absurd hidle hst
  · rfl

/-! The commands inside a transaction go on with their routine, at phase 0 through its first await for LOW. -/

/-- The repeated start of RSTART and of READ up to its first false await (R174). -/
theorem runRoutine_restartCondition (r : Restart) {s : State} (hrun : s.run = true) :
    runRoutine (restartCondition r s) = { s with
      state := .repeatedStart
      sdaDrv := if s.phase then s.sdaDrv else .hiz
      upc := if s.phase then .rsLow r else .rsHigh r } := by
  rw [runRoutine_of_drives (s := restartCondition r s) hrun rfl]
  cases hp : s.phase <;> simp [passAwait, driveSda, restartCondition, hp]

/-- Settles O23: RSTART in a transaction is `runRoutine_restartCondition` with SA and MODE stored. -/
theorem rstartBeginsRepeatedStart : Obligations.RstartBeginsRepeatedStart := by
  unfold Obligations.RstartBeginsRepeatedStart
  intro sa m s hrun hst
  have hexec : exec (.rstart sa m) s = .next (runRoutine (restartCondition .rstart { s with sa := sa, mode := m })) :=
    congrArg _ (if_neg hst)
  exact hexec.trans (congrArg _ (runRoutine_restartCondition .rstart hrun))

/-- Settles O24: the first bit of TXBUF's entry 0 is driven in a low phase; no byte, no routine. -/
theorem writeBeginsPayload : Obligations.WriteBeginsPayload := by
  unfold Obligations.WriteBeginsPayload
  intro n s hrun hst
  refine ⟨fun hn => ?_, fun hn => ?_⟩
  · have hexec : exec (.write n) s = .next (runRoutine (loadPayload 0 { s with state := .payloadPhase })) :=
      congrArg _ ((if_neg hst).trans (if_neg hn))
    rw [hexec, runRoutine_of_drives]
    · cases s.phase <;> simp [passAwait, driveSda, loadPayload, Frame.byte, Frame.entered, State.readTx, bitDrive]
    · exact hrun
    · rfl
  · exact congrArg _ ((if_neg hst).trans (if_pos hn))

/-- Settles O25: READ within its capacity is `runRoutine_restartCondition` with MODE stored. -/
theorem readBeginsRepeatedStart : Obligations.ReadBeginsRepeatedStart := by
  unfold Obligations.ReadBeginsRepeatedStart
  intro n cap s hrun hst hn
  have hexec : exec (.read n cap) s = .next (runRoutine (restartCondition .read { s with mode := .read })) :=
    congrArg _ ((if_neg hst).trans (if_neg (BitVec.not_lt.2 hn)))
  exact hexec.trans (congrArg _ (runRoutine_restartCondition .read hrun))

/-- Settles O26: the stop's await for LOW drives SDA alone; at Idle END completes. -/
theorem endBeginsStop : Obligations.EndBeginsStop := by
  unfold Obligations.EndBeginsStop
  intro s hrun
  refine ⟨fun hst => ?_, fun hidle => congrArg _ (if_pos hidle)⟩
  have hexec : exec .endTx s = .next (runRoutine (stopCondition .ok s)) := congrArg _ (if_neg hst)
  rw [hexec, runRoutine_of_drives (s := stopCondition .ok s) hrun rfl]
  cases hp : s.phase <;> simp [passAwait, driveSda, stopCondition, hp]

/-! The refusals (R186). -/

/-- A command that completes in its dispatch part ends its step refused with the code. -/
theorem step_refused {s s' : State} {i : Instr} {c : ResultCode} (h : Dispatching s s') (hi : decode s.cmd = .ok i)
    (hc : exec i (clearCounters s') = .next (complete c (clearCounters s'))) :
    step s = .next (refused c.code.toNat s') := by
  rw [step_exec h hi, hc, complete_clearCounters]

/-- Settles O27: each refusal is the first test of its command that fails, and completes with its code. -/
theorem refusalsDisturbNothing : Obligations.RefusalsDisturbNothing := by
  unfold Obligations.RefusalsDisturbNothing
  intro s s' hd
  refine ⟨fun e he => illegalCommandCompletes s s' hd (illegalWord_of_decode_error he), fun i hi => ?_⟩
  have refuse {c : ResultCode} := step_refused (c := c) hd hi
  obtain ⟨-, a, rfl⟩ := step_of_nextMove hd.1
  cases i with
  | init f => exact fun hst => refuse (c := .busBusy) (congrArg _ (if_pos hst))
  | beginTx sa ra m =>
    refine ⟨fun hno => refuse (c := .notConfigured) (congrArg _ (if_pos ?_)), fun hconf hst =>
      refuse (c := .busBusy) (congrArg _ ((if_neg ?_).trans (if_pos hst)))⟩
    · simp [hno]
    · simp [hconf]
  | rstart sa m => exact fun hidle => refuse (c := .noTransaction) (congrArg _ (if_pos hidle))
  | write n => exact fun hidle => refuse (c := .noTransaction) (congrArg _ (if_pos hidle))
  | read n cap =>
    exact ⟨fun hidle => refuse (c := .noTransaction) (congrArg _ (if_pos hidle)), fun hst hlt =>
      refuse (c := .bufferTooSmall) (congrArg _ ((if_neg hst).trans (if_pos hlt)))⟩
  | endTx => exact fun hidle => refuse (c := .ok) (congrArg _ (if_pos hidle))

end Sys2Proof.Machine

/-! The end of a frame in a low phase (R143, R177–R182): what follows begins in the same step. -/

namespace Sys2Proof.Machine

open Sys2Proof.Claims

section
variable {s s' u : State} {f : Frame}

theorem passAwait_acked (hu : s.upc = .ackEnd f) (ha : s.ackr = true) : passAwait s = frameAcked f s := by
  simp [passAwait, hu, ha]

theorem passAwait_nacked (hu : s.upc = .ackEnd f) (ha : s.ackr = false) : passAwait s = frameNacked f s := by
  simp [passAwait, hu, ha]

/-- The first of two awaits passed in one step is for LOW. -/
theorem awaits_low_of_second_pass (h : s.canPass = true) (h1 : (passAwait s).canPass = true) :
    s.upc.awaits = some .low := by
  have hp : s.phase = false := by
    by_contra hp
    cases (not_canPass_after_phase_high h (by simpa using hp)).symm.trans h1
  obtain ⟨l, hl, hh⟩ := canPass_awaits h
  cases l with
  | low => exact hl
  | high => cases (not_holds_high hp).symm.trans hh

/-- The block's move is next, in a low phase, where the acknowledgement check of frame `f` returns. -/
structure FrameEnds (f : Frame) (s s' : State) : Prop where
  move  : nextMove s = (.block, s')
  rstN  : s.rstN = true
  run   : s.run = true
  phase : s.phase = false
  upc   : s.upc = .ackEnd f

theorem FrameEnds.canPass (h : FrameEnds f s s') : s.canPass = true :=
  canPass_low h.run (congrArg Upc.awaits h.upc) h.phase

theorem FrameEnds.canPass_next (h : FrameEnds f s s') : s'.canPass = true := by
  have hpass := h.canPass
  obtain ⟨-, a, rfl⟩ := step_of_nextMove h.move
  exact hpass

theorem FrameEnds.passAwait_acked (h : FrameEnds f s s') (ha : s.ackr = true) : passAwait s' = frameAcked f s' := by
  obtain ⟨-, a, rfl⟩ := step_of_nextMove h.move
  exact Machine.passAwait_acked (s := { s with agenda := a }) h.upc ha

theorem FrameEnds.passAwait_nacked (h : FrameEnds f s s') (ha : s.ackr = false) :
    passAwait s' = frameNacked f s' := by
  obtain ⟨-, a, rfl⟩ := step_of_nextMove h.move
  exact Machine.passAwait_nacked (s := { s with agenda := a }) h.upc ha

theorem FrameEnds.step_eq (h : FrameEnds f s s') : step s = .next (runRoutine s') := by
  rw [(sequencerBeforeTick s s' h.move h.rstN).1 (sequencerEnabled_of_canPass h.canPass),
    sequencerStep_pass h.canPass_next]

/-- What follows the frame ends the step where it stands at an await that is not passed, or has ended the command. -/
theorem FrameEnds.step_stops (h : FrameEnds f s s') (hpass : passAwait s' = u) (hu : u.canPass = false) :
    step s = .next u := by
  subst hpass
  rw [h.step_eq, runRoutine_once h.canPass_next hu]

/-- What follows the frame drives SDA in the same step. -/
theorem FrameEnds.step_drives (h : FrameEnds f s s') (hpass : passAwait s' = u) (hrun : u.run = true)
    (hd : u.upc.drives = true) : step s = .next (passAwait u) := by
  subst hpass
  have hphase : (passAwait s').phase = false := by
    rw [(passAwait_kept s').phase]
    obtain ⟨-, a, rfl⟩ := step_of_nextMove h.move
    exact h.phase
  have hl := Upc.awaits_of_drives hd
  have hsecond := canPass_low hrun hl hphase
  rw [h.step_eq, runRoutine_twice h.canPass_next hsecond
    (not_canPass_high_after_low hsecond hl (passAwait_drives_awaits hd))]

end

/-- Settles O46: the payload case of `frameNacked` or `frameAcked`, and the bit or the stop it goes on with. -/
theorem payloadRetryPolicy : Obligations.PayloadRetryPolicy := by
  unfold Obligations.PayloadRetryPolicy
  intro s s' hm hr hrun hp hu
  have hend : FrameEnds .payload s s' := ⟨hm, hr, hrun, hp, hu⟩
  obtain ⟨-, a, rfl⟩ := step_of_nextMove hm
  refine ⟨fun ha hatt => ?_, fun ha hatt => ?_, fun ha hlt => ?_, fun ha hge => ?_⟩
  · exact hend.step_drives ((hend.passAwait_nacked ha).trans (if_neg hatt)) hrun rfl
  · exact hend.step_drives ((hend.passAwait_nacked ha).trans (if_pos hatt)) hrun rfl
  · exact hend.step_drives ((hend.passAwait_acked ha).trans (if_pos hlt)) hrun rfl
  · exact hend.step_stops ((hend.passAwait_acked ha).trans (if_neg (Nat.not_lt.2 hge))) (canPass_of_not_running rfl)

/-- Settles O58: the case of `frameAcked` for each other frame; READ's first sample waits for HIGH. -/
theorem acknowledgedFrameGoesOn : Obligations.AcknowledgedFrameGoesOn := by
  unfold Obligations.AcknowledgedFrameGoesOn
  intro s s' hm hr hrun hp ha
  have hend {f : Frame} (hu : s.upc = .ackEnd f) : FrameEnds f s s' := ⟨hm, hr, hrun, hp, hu⟩
  obtain ⟨-, a, rfl⟩ := step_of_nextMove hm
  refine ⟨fun hu => ?_, fun hu => ?_, fun hu hcount => ?_⟩
  · exact (hend hu).step_drives ((hend hu).passAwait_acked ha) hrun rfl
  · rcases hu with hu | hu
    · exact (hend hu).step_stops ((hend hu).passAwait_acked ha) (canPass_of_not_running rfl)
    · exact (hend hu).step_stops ((hend hu).passAwait_acked ha) (canPass_of_not_running rfl)
  · exact (hend hu).step_stops (((hend hu).passAwait_acked ha).trans (if_pos hcount))
      (not_canPass_of_level (l := .high) rfl (not_holds_high hp))

end Sys2Proof.Machine

/-! The transaction state (R170): the Sequencer alone changes it, in the dispatch of a command, with a frame's first
bit, at the end of a frame or of a stop, and in the forced release. -/

namespace Sys2Proof.Machine

open Sys2Proof.Claims

section
variable {s t : State} {f : Frame}

/-! One await. -/

/-- Of the awaits that only drive SDA, the first bit of a frame that is no payload byte alone changes the state. -/
theorem passAwait_drives_state (hd : s.upc.drives = true) (h : ∀ f, s.upc = .bitLow f 7 → f = .payload) :
    (passAwait s).state = s.state := by
  cases hu : s.upc with
  | bitLow f k =>
    by_cases hk : k = 7
    · obtain rfl := h f (hk ▸ hu)
      simp [passAwait, hu, Frame.entered]
    · simp [passAwait, hu, hk]
  | ackLow f => simp [passAwait, hu]
  | rsLow r => simp [passAwait, hu]
  | mackLow => simp [passAwait, hu]
  | stopLow c => simp [passAwait, hu]
  | _ => simp [hu, Upc.drives] at hd

/-- With its first bit a frame enters its state (R177, R178, R180). -/
theorem firstBit_transition (hu : s.upc = .bitLow f 7) (hst : s.state = f.before) :
    (passAwait s).state = s.state ∨ Transition s (passAwait s) := by
  have hnew : (passAwait s).state = f.entered s := by simp [passAwait, hu]
  rcases f with _ | _ | (_ | _) | _
  case restartAddr.rstart =>
    cases hm : s.mode <;> exact .inr (by simp [Transition, hst, hu, hnew, hm, Frame.before, Frame.entered])
  case payload => exact .inl hnew
  all_goals exact .inr (by simp [Transition, hst, hu, hnew, Frame.before, Frame.entered])

/-- An acknowledged frame changes the state only where READ goes on to its payload (R180). -/
theorem frameAcked_transition (hu : s.upc = .ackEnd f) (ha : s.ackr = true) (hst : s.state = f.entered s) :
    (frameAcked f s).state = s.state ∨ Transition s (frameAcked f s) := by
  rcases f with _ | _ | (_ | _) | _
  case restartAddr.read =>
    have hnew : (beginPayloadRead s).state = .payloadPhase := by unfold beginPayloadRead; simp only; split <;> rfl
    exact .inr (by simp [Transition, hst, hu, ha, hnew, frameAcked, Frame.entered])
  case payload => simp only [frameAcked]; split <;> exact .inl rfl
  all_goals exact .inl rfl

/-- A frame that is not acknowledged is sent again or begins a stop (R182, R225). -/
theorem frameNacked_state (f : Frame) (s : State) :
    (frameNacked f s).state = s.state ∨ (frameNacked f s).state = .stopCondition := by
  rcases f with _ | _ | _ | _ <;> simp only [frameNacked]
  case payload => split <;> simp [fail]
  all_goals exact .inr rfl

/-- One await passed changes the transaction state along R170's table. -/
theorem passAwait_transition (hr : routineOk s = true) :
    (passAwait s).state = s.state ∨ Transition s (passAwait s) := by
  cases hu : s.upc with
  | bitLow f k =>
    by_cases hk : k = 7
    · subst hk
      exact firstBit_transition hu ((routineOk_firstBit hu).1 hr).2
    · exact .inl (by simp [passAwait, hu, hk])
  | ackEnd f =>
    obtain ⟨hf, hst, -⟩ := (routineOk_ackEnd hu).1 hr
    cases ha : s.ackr with
    | true =>
      rw [passAwait_acked hu ha]
      exact frameAcked_transition hu ha hst
    | false =>
      have hidle : s.state ≠ .idle := hst ▸ Frame.entered_ne_idle hf
      rw [passAwait_nacked hu ha]
      exact (frameNacked_state f s).imp_right fun hstop => by simp [Transition, hidle, hu, ha, hstop]
  | rxLow k b => simp only [passAwait, hu, receivedBit]; split <;> exact .inl rfl
  | mackEnd => simp only [passAwait, hu]; split <;> exact .inl rfl
  | stopHigh c =>
    obtain ⟨-, -, -, hst⟩ := stopOk_base ((routineOk_stopHigh hu).1 hr).1
    exact .inr (by simp [Transition, hst, hu, passAwait])
  | _ => exact .inl (by simp [passAwait, hu])

/-! Two awaits in one step. -/

/-- Only BEGIN's acknowledged address frame is followed in the same step by a frame that is no payload byte (R177). -/
theorem firstBit_after_pass (hl : s.upc.awaits = some .low) (h : (passAwait s).upc = .bitLow f 7) (hf : f ≠ .payload) :
    s.upc = .ackEnd .beginAddr ∧ s.ackr = true := by
  cases hu : s.upc with
  | ackEnd g =>
    cases ha : s.ackr with
    | true =>
      rw [passAwait_acked hu ha] at h
      rcases g with _ | _ | (_ | _) | _ <;> simp only [frameAcked] at h
      case beginAddr => exact ⟨rfl, rfl⟩
      case beginReg => cases h
      case restartAddr.rstart => cases h
      case restartAddr.read => unfold beginPayloadRead at h; simp only at h; split at h <;> cases h
      case payload =>
        split at h <;> cases h
        exact absurd rfl hf
    | false =>
      rw [passAwait_nacked hu ha] at h
      rcases g with _ | _ | _ | _ <;> simp only [frameNacked] at h
      case payload =>
        split at h <;> cases h
        exact absurd rfl hf
      all_goals cases h
  | rxLow k b => simp only [passAwait, hu, receivedBit] at h; split at h <;> cases h
  | mackEnd => simp only [passAwait, hu] at h; split at h <;> cases h
  | _ => simp [passAwait, hu, Upc.awaits] at h hl

/-- What two awaits passed in one step make of the transaction state. -/
theorem passAwait_twice_transition (hr : routineOk s = true) (h : s.canPass = true)
    (h1 : (passAwait s).canPass = true) :
    (passAwait (passAwait s)).state = s.state ∨ Transition s (passAwait (passAwait s)) := by
  have hl := awaits_low_of_second_pass h h1
  by_cases hreg : s.upc = .ackEnd .beginAddr ∧ s.ackr = true
  · obtain ⟨hu, ha⟩ := hreg
    obtain ⟨-, hst, -⟩ := (routineOk_ackEnd hu).1 hr
    have hnew : (passAwait (passAwait s)).state = .writeRegisterPhase := by
      simp [passAwait, hu, ha, frameAcked, Frame.entered]
    exact .inr (by simp [Transition, hst, hu, ha, hnew, Frame.entered])
  · have hkeep : (passAwait (passAwait s)).state = (passAwait s).state :=
      passAwait_drives_state (drives_after_pass h h1) fun f hu => by
        by_contra hf
        exact hreg (firstBit_after_pass hl hu hf)
    simpa only [Transition, hkeep] using passAwait_transition hr

/-! The Sequencer's step. -/

/-- A command's dispatch part changes the transaction state along R170's table. -/
theorem exec_transition {i : Instr} (hrun : s.run = true) (hu : s.upc = .dispatch) (hi : decode s.cmd = .ok i)
    (h : exec i s = .next t) : t.state = s.state ∨ Transition s t := by
  cases i with
  | init freq => rcases execInit_cases h with ⟨-, rfl⟩ | ⟨-, d, -, rfl⟩ | ⟨-, -, rfl⟩ <;> exact .inl rfl
  | beginTx sa ra md =>
    rcases execBegin_cases h with ⟨-, rfl⟩ | ⟨-, -, rfl⟩ | ⟨-, hst, rfl⟩
    · exact .inl rfl
    · exact .inl rfl
    · exact .inr (by simp [Transition, hst, hu, hi])
  | rstart sa md =>
    rcases execRstart_cases h with ⟨-, rfl⟩ | ⟨hst, -⟩
    · exact .inl rfl
    · cases (rstartBeginsRepeatedStart sa md s hrun hst).symm.trans h
      exact .inr (by simp [Transition, hst, hu, hi])
  | write n =>
    rcases execWrite_cases h with ⟨-, rfl⟩ | ⟨hst, hn, -⟩ | ⟨hst, hn, -⟩
    · exact .inl rfl
    · cases ((writeBeginsPayload n s hrun hst).2 hn).symm.trans h
      exact .inr (by simp [Transition, hst, hu, hi])
    · cases ((writeBeginsPayload n s hrun hst).1 hn).symm.trans h
      exact .inr (by simp [Transition, hst, hu, hi])
  | read n cap =>
    rcases execRead_cases h with ⟨-, rfl⟩ | ⟨-, -, rfl⟩ | ⟨hst, hcap, -⟩
    · exact .inl rfl
    · exact .inl rfl
    · cases (readBeginsRepeatedStart n cap s hrun hst (BitVec.not_lt.1 hcap)).symm.trans h
      exact .inr (by simp [Transition, hst, hu, hi])
  | endTx =>
    rcases execEnd_cases h with ⟨-, rfl⟩ | ⟨hst, -⟩
    · exact .inl rfl
    · cases ((endBeginsStop s hrun).1 hst).symm.trans h
      exact .inr (by simp [Transition, hst, hu, hi])

/-- A Sequencer step changes the transaction state along R170's table. -/
theorem sequencerStep_transition (hinv : MachineInv s) (hq : s.sequencerEnabled = true)
    (h : sequencerStep s = .next t) :
    t.state = s.state ∨ Transition s t := by
  obtain ⟨⟨-, ⟨hidle, -⟩, -⟩, hr⟩ := machineInv_iff.1 hinv
  rcases sequencerStep_cases h with ⟨-, -, rfl⟩ | ⟨hu, i, hi, he⟩ | ⟨hp, rfl | ⟨h1, rfl⟩⟩ | ⟨hp, ⟨l, hl⟩, rfl⟩
  · exact .inl rfl
  · exact exec_transition (s := clearCounters s) ((routineOk_dispatch hu).1 hr).1 hu hi he
  · exact passAwait_transition hr
  · exact passAwait_twice_transition hr hp h1
  · obtain ⟨hblocked, hbound⟩ := blocked_and_timedOut hq hl hp
    obtain ⟨-, hen, -⟩ := routineOk_awaits hr hl
    exact .inr (by simp [Transition, hidle.1 hen, hblocked, hbound])

theorem TxState.resting_iff {st : TxState} : st.resting = true ↔
    st = .idle ∨ st = .addressPhase ∨ st = .writeRegisterPhase ∨ st = .readRegisterPhase ∨ st = .payloadPhase := by
  cases st <;> simp [TxState.resting]

/-- With no command running the transaction rests (R170). -/
theorem MachineInv.state_resting (h : MachineInv s) (hrun : s.run = false) : s.state.resting = true := by
  obtain ⟨-, hr⟩ := machineInv_iff.1 h
  obtain ⟨-, hrest⟩ := (routineOk_noRoutine (routineOk_not_running hr hrun)).1 hr
  simp only [resting, Bool.and_eq_true] at hrest
  exact hrest.1

/-- A host write leaves the transaction state (R65). -/
theorem regWrite_state (v : Word) (s : State) (r : HostReg) : (regWrite v s r).state = s.state := by
  rcases regWrite_cases v s r with
    hw | ⟨-, -, hw⟩ | ⟨-, -, hw⟩ | ⟨-, -, hw⟩ | ⟨-, hw⟩ | ⟨i, -, hw⟩ <;> simp [hw]

end

/-- Settles O54: only the Sequencer changes the state, by the case of its step; the invariant holds after every step,
and with no command running it puts the state at rest. -/
theorem transactionStateChain : Obligations.TransactionStateChain := by
  unfold Obligations.TransactionStateChain
  intro s s' t m hinv hm ht hr
  refine ⟨fun hne => ?_, fun hrun => TxState.resting_iff.1 ((step_inv hinv ht).state_resting hrun)⟩
  have hagent := step_agent hm ht hr
  obtain ⟨-, a, rfl⟩ := step_of_nextMove hm
  rcases hagent with ⟨hseq, hx⟩ | ⟨-, off, v, -, rfl⟩ | hk
  · have hinv' : MachineInv { s with agenda := a } := hinv.update hinv.base
    have ⟨_, _, hq⟩ := hseq
    exact ⟨hseq, (sequencerStep_transition hinv' hq hx).resolve_left hne⟩
  · exact absurd (regWrite_state v _ _) hne
  · exact absurd hk.state hne

end Sys2Proof.Machine

/-! RUN and RESULT (R183): the Sequencer alone ends a command, and writes RESULT in that step. -/

namespace Sys2Proof.Machine

open Sys2Proof.Claims

section
variable {s t u : State} {c : ResultCode}

/-- From `s` to `t` the command goes on with RESULT as it was, or ends with its own RESULT and counters. -/
def GoesOnOrEnds (s t : State) : Prop :=
  (t.run = s.run ∧ t.result = s.result) ∨
    (t.run = false ∧ t.upc = .noRoutine ∧ ∃ c, t.result = resultWord (Word.op s.cmd) t.att t.xfer t.nakph c)

theorem complete_ends (h : u.cmd = s.cmd) : GoesOnOrEnds s (complete c u) :=
  .inr ⟨rfl, rfl, c, by rw [← h]; rfl⟩

theorem frameAcked_goesOnOrEnds (f : Frame) (s : State) : GoesOnOrEnds s (frameAcked f s) := by
  rcases f with _ | _ | (_ | _) | _ <;> simp only [frameAcked]
  case beginAddr => exact .inl ⟨rfl, rfl⟩
  case restartAddr.read =>
    unfold beginPayloadRead
    simp only
    split
    · exact .inl ⟨rfl, rfl⟩
    · exact complete_ends rfl
  case payload =>
    split
    · exact .inl ⟨rfl, rfl⟩
    · exact complete_ends rfl
  all_goals exact complete_ends rfl

/-- A frame that is not acknowledged goes on, with another attempt or a stop. -/
theorem frameNacked_goesOn (f : Frame) (s : State) :
    (frameNacked f s).run = s.run ∧ (frameNacked f s).result = s.result := by
  rcases f with _ | _ | _ | _ <;> simp only [frameNacked]
  case payload => split <;> exact ⟨rfl, rfl⟩
  all_goals exact ⟨rfl, rfl⟩

theorem passAwait_goesOnOrEnds (s : State) : GoesOnOrEnds s (passAwait s) := by
  cases hu : s.upc with
  | ackEnd f =>
    cases ha : s.ackr with
    | true => rw [passAwait_acked hu ha]; exact frameAcked_goesOnOrEnds f s
    | false => rw [passAwait_nacked hu ha]; exact .inl (frameNacked_goesOn f s)
  | rxLow k b => simp only [passAwait, hu, receivedBit]; split <;> exact .inl ⟨rfl, rfl⟩
  | mackEnd =>
    simp only [passAwait, hu]
    split
    · exact .inl ⟨rfl, rfl⟩
    · exact complete_ends rfl
  | stopHigh c => simp only [passAwait, hu]; exact complete_ends rfl
  | _ => exact .inl (by simp [passAwait, hu])

/-- A second await is passed only where the first has not ended the command. -/
theorem passAwait_twice_goesOnOrEnds (h1 : (passAwait s).canPass = true) :
    GoesOnOrEnds s (passAwait (passAwait s)) := by
  have hsecond := passAwait_goesOnOrEnds (passAwait s)
  rw [GoesOnOrEnds, (passAwait_kept s).cmd] at hsecond
  rcases passAwait_goesOnOrEnds s with ⟨hrun, hres⟩ | ⟨hover, -⟩
  · rwa [hrun, hres] at hsecond
  · cases (canPass_of_not_running hover).symm.trans h1

theorem runRoutine_goesOnOrEnds (s : State) : GoesOnOrEnds s (runRoutine s) := by
  rcases runRoutine_passes s with hr | ⟨-, hr⟩ | ⟨-, h1, hr⟩ <;> rw [hr]
  · exact .inl ⟨rfl, rfl⟩
  · exact passAwait_goesOnOrEnds s
  · exact passAwait_twice_goesOnOrEnds h1

theorem exec_goesOnOrEnds {i : Instr} (h : exec i s = .next t) : GoesOnOrEnds s t := by
  cases i with
  | init f => rcases execInit_cases h with ⟨-, rfl⟩ | ⟨-, d, -, rfl⟩ | ⟨-, -, rfl⟩ <;> exact complete_ends rfl
  | beginTx sa ra md =>
    rcases execBegin_cases h with ⟨-, rfl⟩ | ⟨-, -, rfl⟩ | ⟨-, -, rfl⟩
    · exact complete_ends rfl
    · exact complete_ends rfl
    · exact .inl ⟨rfl, rfl⟩
  | rstart sa md =>
    rcases execRstart_cases h with ⟨-, rfl⟩ | ⟨-, rfl⟩
    · exact complete_ends rfl
    · exact runRoutine_goesOnOrEnds (restartCondition .rstart { s with sa := sa, mode := md })
  | write n =>
    rcases execWrite_cases h with ⟨-, rfl⟩ | ⟨-, -, rfl⟩ | ⟨-, -, rfl⟩
    · exact complete_ends rfl
    · exact complete_ends rfl
    · exact runRoutine_goesOnOrEnds (loadPayload 0 { s with state := .payloadPhase })
  | read n cap =>
    rcases execRead_cases h with ⟨-, rfl⟩ | ⟨-, -, rfl⟩ | ⟨-, -, rfl⟩
    · exact complete_ends rfl
    · exact complete_ends rfl
    · exact runRoutine_goesOnOrEnds (restartCondition .read { s with mode := .read })
  | endTx =>
    rcases execEnd_cases h with ⟨-, rfl⟩ | ⟨-, rfl⟩
    · exact complete_ends rfl
    · exact runRoutine_goesOnOrEnds (stopCondition .ok s)

theorem sequencerStep_goesOnOrEnds (h : sequencerStep s = .next t) : GoesOnOrEnds s t := by
  rcases sequencerStep_cases h with ⟨-, -, rfl⟩ | ⟨-, i, -, he⟩ | ⟨-, rfl | ⟨h1, rfl⟩⟩ | ⟨-, -, rfl⟩
  · exact complete_ends rfl
  · exact exec_goesOnOrEnds (s := clearCounters s) he
  · exact passAwait_goesOnOrEnds s
  · exact passAwait_twice_goesOnOrEnds h1
  · exact complete_ends rfl

/-- A host write starts a command, and ends none; RESULT is read-only (R65, R171). -/
theorem regWrite_run_result (v : Word) (s : State) (r : HostReg) :
    (regWrite v s r).result = s.result ∧ (s.run = true → (regWrite v s r).run = true) := by
  rcases regWrite_cases v s r with
    hw | ⟨-, -, hw⟩ | ⟨-, -, hw⟩ | ⟨-, -, hw⟩ | ⟨-, hw⟩ | ⟨i, -, hw⟩ <;> simp [hw]

theorem SequencerMoves.run {m : Move} (h : SequencerMoves s m) : s.run = true := by
  obtain ⟨-, -, hq⟩ := h
  simp only [State.sequencerEnabled, Bool.and_eq_true] at hq
  exact hq.1

end

/-- Settles O43: a step is the Sequencer's, where the command goes on or ends, or leaves RESULT and RUN = 1. -/
theorem resultWrittenOnceAtCompletion : Obligations.ResultWrittenOnceAtCompletion := by
  unfold Obligations.ResultWrittenOnceAtCompletion
  intro s s' t m hm ht hr
  have hagent := step_agent hm ht hr
  obtain ⟨-, a, rfl⟩ := step_of_nextMove hm
  rcases hagent with ⟨hseq, hx⟩ | ⟨-, off, v, -, rfl⟩ | hk
  · have hrun := SequencerMoves.run hseq
    rcases sequencerStep_goesOnOrEnds hx with ⟨hgo, hres⟩ | ⟨hover, hupc, c, hc⟩
    · exact ⟨fun hne => absurd hres hne, fun _ hend => by cases hend.symm.trans (hgo.trans hrun)⟩
    · exact ⟨fun _ => ⟨hseq, hrun, hover⟩, fun _ _ => ⟨hupc, c, hc⟩⟩
  · obtain ⟨hres, hrun⟩ := regWrite_run_result v { s with agenda := a } (hostReg off)
    exact ⟨fun hne => absurd hres hne, fun hgo hend => by cases hend.symm.trans (hrun hgo)⟩
  · exact ⟨fun hne => absurd hk.result hne, fun hgo hend => by cases hend.symm.trans (hk.run.trans hgo)⟩

end Sys2Proof.Machine

/-! END's stop in ticks (R175, R181, R263). -/

namespace Sys2Proof.Machine

open Sys2Proof.Claims

/-- `n` steps lead from `s` to `t`, with the command running before each of them. -/
def RunsFor (n : Nat) (s t : State) : Prop := runsTo n s t ∧ ∀ k u, k < n → runsTo k s u → u.run = true

/-- What the end of a stop leaves: both lines released, the clock off, Idle, the command ended (R175). -/
def stopped (c : ResultCode) (s : State) : State := complete c { disableClock (driveSda .hiz s) with state := .idle }

section
variable {s t u : State} {n : Nat} {c : ResultCode}

theorem RunsFor.zero : RunsFor 0 s s := ⟨rfl, fun _ _ hk => absurd hk (Nat.not_lt_zero _)⟩

/-- One more step before the others. -/
theorem RunsFor.cons (hstep : step s = .next u) (hrun : s.run = true) (h : RunsFor n u t) : RunsFor (n + 1) s t := by
  obtain ⟨hruns, hbusy⟩ := h
  refine ⟨runsTo_succ.2 ⟨u, hstep, hruns⟩, fun k v hk hv => ?_⟩
  cases k with
  | zero => exact runsTo_zero.1 hv ▸ hrun
  | succ k =>
    obtain ⟨w, hw, hv⟩ := runsTo_succ.1 hv
    cases hstep.symm.trans hw
    exact hbusy k v (Nat.lt_of_succ_lt_succ hk) hv

theorem passAwait_stopHigh (hu : s.upc = .stopHigh c) : passAwait s = stopped c s := by
  simp only [passAwait, hu, stopped]

/-- With SDA pulled low in a low phase, a stop ends at the rising tick (R175). -/
theorem Clocked.stopHigh_completes (h : Clocked s) (hu : s.upc = .stopHigh c) (hp : s.phase = false)
    (ha : s.agenda = []) (hscl : s.eSclLow = false) : RunsFor 2 s (stopped c (unheldTick s)) := by
  have hl : s.upc.awaits = some .high := by rw [hu]; rfl
  have hrise := h.step_ticks (nextMove_of_nil ha) hl (not_holds_high hp) (.inl hp)
  have hc := h.next_phase
  have hphase : (unheldTick s).phase = true := congrArg not hp
  have hh := hc.holds_high hphase hscl
  have hend : step (unheldTick s) = .next (stopped c (unheldTick s)) := by
    rw [hc.step_passes (nextMove_of_nil ha) (l := .high) hl hh, runRoutine_of_phase_high (hc.canPass hl hh) hphase,
      passAwait_stopHigh (s := unheldTick s) hu]
  exact .cons hrise h.run (.cons hend h.run .zero)

/-- A stop begun in a high phase waits for the falling tick, pulls SDA low, and ends at the next rising tick. -/
theorem Clocked.stopLow_completes (h : Clocked s) (hu : s.upc = .stopLow c) (hp : s.phase = true)
    (ha : s.agenda = []) (hscl : s.eSclLow = false) :
    RunsFor 4 s (stopped c (unheldTick { driveSda .low (unheldTick s) with upc := .stopHigh c })) := by
  have hl : s.upc.awaits = some .low := by rw [hu]; rfl
  have hfall := h.step_ticks (nextMove_of_nil ha) hl (not_holds_low hp) (.inr hscl)
  have hc := h.next_phase
  have hphase : (unheldTick s).phase = false := congrArg not hp
  have hdrive : step (unheldTick s) = .next { driveSda .low (unheldTick s) with upc := .stopHigh c } := by
    rw [hc.step_passes (nextMove_of_nil ha) (l := .low) hl (holds_low hphase),
      runRoutine_of_drives (s := unheldTick s) h.run (congrArg Upc.drives hu), hphase]
    simp [passAwait, unheldTick, hu]
  have hrest : Clocked { driveSda .low (unheldTick s) with upc := .stopHigh c } := { hc with }
  exact .cons hfall h.run (.cons hdrive h.run (hrest.stopHigh_completes rfl hphase ha hscl))

/-- END's stop completes it with Ok and no counts, both lines released at Idle. -/
theorem RunsFor.end_stopped {ticks : Nat} (h : RunsFor (1 + 2 * ticks) s (stopped .ok u)) (hop : Word.op u.cmd = 6#4)
    (hatt : u.att = 0#4) (hxfer : u.xfer = 0#9) (hnak : u.nakph = 0#2) :
    ∃ t, CompletesAfter ticks s t ∧ t.result = 0x06000000#32 ∧ t.state = .idle ∧ t.enabled = false ∧
      t.scla = false ∧ t.sdaDrv = .hiz ∧ t.sclO = true := by
  obtain ⟨hruns, hbusy⟩ := h
  refine ⟨stopped .ok u, ⟨hruns, rfl, hbusy⟩, ?_, rfl, rfl, rfl, rfl, rfl⟩
  change resultWord (Word.op u.cmd) u.att u.xfer u.nakph .ok = _
  rw [hop, hatt, hxfer, hnak]
  rfl

end

/-- Settles O34: END's dispatch begins the stop (`endBeginsStop`), which ends at the first rising tick. -/
theorem endStopsAtRisingTick : Obligations.EndStopsAtRisingTick := by
  unfold Obligations.EndStopsAtRisingTick
  intro s ⟨hr, hrun, hu, hi, ha, hscl, hbound⟩ ⟨hst, hen, hscla, hsclO⟩
  have hop : Word.op s.cmd = 6#4 := carries_of_decode hi
  have hc : Clocked s := ⟨hr, hrun, hen, hscla, hsclO, hbound⟩
  have hdispatch := step_exec ⟨nextMove_of_nil ha, hr, hrun, hu⟩ hi
  rw [(endBeginsStop (clearCounters s) hrun).1 hst] at hdispatch
  cases hp : s.phase with
  | false =>
    have hstep : step s = .next { clearCounters s with
        state := .stopCondition, sdaDrv := .low, upc := .stopHigh .ok } := by rw [hdispatch]; simp [hp]
    have hstop : Clocked { clearCounters s with state := .stopCondition, sdaDrv := .low, upc := .stopHigh .ok } :=
      { hc with }
    have hruns := RunsFor.cons hstep hrun (hstop.stopHigh_completes rfl hp ha hscl)
    rw [late, hp]
    exact hruns.end_stopped (ticks := 1) hop rfl rfl rfl
  | true =>
    have hstep : step s = .next { clearCounters s with state := .stopCondition, upc := .stopLow .ok } := by
      rw [hdispatch]; simp [hp]
    have hstop : Clocked { clearCounters s with state := .stopCondition, upc := .stopLow .ok } := { hc with }
    have hruns := RunsFor.cons hstep hrun (hstop.stopLow_completes rfl hp ha hscl)
    rw [late, hp]
    exact hruns.end_stopped (ticks := 2) hop rfl rfl rfl

end Sys2Proof.Machine

/-! The code a command ends with (R183, R221): a dispatch part ends with a code of its row, a routine with Ok, with its
stop's code or with the timeout. -/

namespace Sys2Proof.Machine

open Sys2Proof.Claims

/-- NAKPH of a command that ends with NoAck (R184, R221). -/
def NoAckPhase (i : Instr) (ph : BitVec 2) : Prop :=
  ((∃ sa ra md, i = .beginTx sa ra md) ∧ (ph = 1#2 ∨ ph = 2#2)) ∨
    (((∃ sa md, i = .rstart sa md) ∨ ∃ n cap, i = .read n cap) ∧ ph = 3#2)

/-- `t` is the end of command `i` with a code of its row, NoAck with the row's phase code (R183, R221). -/
def EndsInRow (i : Instr) (t : State) : Prop :=
  ∃ c u, t = complete c u ∧ c ∈ codesOf i ∧ (c = .noAck → NoAckPhase i u.nakph)

section
variable {s t u : State} {i : Instr} {c : ResultCode}

/-! RESULT's fields as the host reads them (R51). -/

theorem complete_result_code (c : ResultCode) (s : State) : (complete c s).result.toNat % 16 = c.code.toNat := by
  rw [complete_result, toNat_resultWord]
  omega

theorem complete_result_phase (c : ResultCode) (s : State) : (complete c s).result.toNat / 16 % 4 = s.nakph.toNat := by
  rw [complete_result, toNat_resultWord]
  omega

/-! R221's rows. -/

/-- A code that R221 allows the OP of a legal word is in the command's row, or is the code of an illegal word. -/
theorem mem_codesOf (hi : decode s.cmd = .ok i) (hc : codeAllowed (Word.op s.cmd) c = true)
    (hlegal : c ≠ .illegalCommand) : c ∈ codesOf i := by
  have hop := carries_of_decode hi
  cases i <;> simp only [Carries] at hop <;> cases c <;> simp_all [codeAllowed, codesOf]

theorem ok_mem_codesOf (i : Instr) : ResultCode.ok ∈ codesOf i := by
  cases i <;> simp [codesOf]

/-- The phase code of a stop that began with NoAck is its command's (R184). -/
theorem noAckPhase_of_stop (hi : decode s.cmd = .ok i) (h : stopOk .noAck s = true) : NoAckPhase i s.nakph := by
  obtain ⟨-, -, -, hrow⟩ := stopOk_noAck.1 h
  have hop := carries_of_decode hi
  cases i <;> simp_all [Carries, NoAckPhase]

theorem complete_endsInRow (hc : c ∈ codesOf i) (hne : c ≠ .noAck) : EndsInRow i (complete c u) :=
  ⟨c, u, rfl, hc, fun h => absurd h hne⟩

/-! A routine (R10). -/

/-- An await that only drives SDA ends no command. -/
theorem passAwait_drives_run (hd : s.upc.drives = true) : (passAwait s).run = s.run := by
  cases hu : s.upc <;> simp only [hu, Upc.drives, Bool.false_eq_true] at hd <;> simp [passAwait, hu]

theorem runRoutine_drives_run (hrun : s.run = true) (hd : s.upc.drives = true) : (runRoutine s).run = true := by
  rw [runRoutine_of_drives hrun hd]
  split
  · exact hrun
  · exact (passAwait_drives_run hd).trans hrun

theorem frameAcked_ends (f : Frame) (s : State) :
    (frameAcked f s).run = s.run ∨ ∃ u, frameAcked f s = complete .ok u := by
  rcases f with _ | _ | (_ | _) | _
  case beginAddr => exact .inl rfl
  case restartAddr.read =>
    simp only [frameAcked, beginPayloadRead]
    split
    · exact .inl rfl
    · exact .inr ⟨_, rfl⟩
  case payload =>
    simp only [frameAcked]
    split
    · exact .inl rfl
    · exact .inr ⟨_, rfl⟩
  all_goals exact .inr ⟨_, rfl⟩

/-- After an await the command goes on, is done, or has ended its stop. -/
theorem passAwait_ends (s : State) :
    (passAwait s).run = s.run ∨ (∃ u, passAwait s = complete .ok u) ∨
      ∃ c, s.upc = .stopHigh c ∧ passAwait s = stopped c s := by
  cases hu : s.upc with
  | ackEnd f =>
    cases ha : s.ackr with
    | true =>
      rw [passAwait_acked hu ha]
      exact (frameAcked_ends f s).imp_right .inl
    | false =>
      rw [passAwait_nacked hu ha]
      exact .inl (frameNacked_goesOn f s).1
  | rxLow k b => simp only [passAwait, hu, receivedBit]; split <;> exact .inl rfl
  | mackEnd =>
    simp only [passAwait, hu]
    split
    · exact .inl rfl
    · exact .inr (.inl ⟨_, rfl⟩)
  | stopHigh c => exact .inr (.inr ⟨c, rfl, passAwait_stopHigh hu⟩)
  | _ => exact .inl (by simp [passAwait, hu])

/-! The commands. -/

/-- A command's dispatch part ends it with a code of its row, or begins its routine at an await that drives SDA
(R176–R181). -/
theorem exec_ends_or_begins (h : exec i s = .next t) :
    (∃ c u, t = complete c u ∧ c ∈ codesOf i ∧ c ≠ .noAck) ∨
      ∃ a, t = runRoutine a ∧ a.run = s.run ∧ a.upc.drives = true := by
  have ends {c : ResultCode} {u : State} (hc : c ∈ codesOf i) (hne : c ≠ .noAck) :
      ∃ c' u', complete c u = complete c' u' ∧ c' ∈ codesOf i ∧ c' ≠ .noAck := ⟨c, u, rfl, hc, hne⟩
  cases i with
  | init f =>
    rcases execInit_cases h with ⟨-, rfl⟩ | ⟨-, d, -, rfl⟩ | ⟨-, -, rfl⟩ <;>
      exact .inl (ends (by simp [codesOf]) (by simp))
  | beginTx sa ra md =>
    rcases execBegin_cases h with ⟨-, rfl⟩ | ⟨-, -, rfl⟩ | ⟨-, -, rfl⟩
    · exact .inl (ends (by simp [codesOf]) (by simp))
    · exact .inl (ends (by simp [codesOf]) (by simp))
    · exact .inr ⟨_, (runRoutine_blocked (not_canPass_of_level (l := .low) rfl rfl)).symm, rfl, rfl⟩
  | rstart sa md =>
    rcases execRstart_cases h with ⟨-, rfl⟩ | ⟨-, rfl⟩
    · exact .inl (ends (by simp [codesOf]) (by simp))
    · exact .inr ⟨_, rfl, rfl, rfl⟩
  | write n =>
    rcases execWrite_cases h with ⟨-, rfl⟩ | ⟨-, -, rfl⟩ | ⟨-, -, rfl⟩
    · exact .inl (ends (by simp [codesOf]) (by simp))
    · exact .inl (ends (by simp [codesOf]) (by simp))
    · exact .inr ⟨_, rfl, rfl, rfl⟩
  | read n cap =>
    rcases execRead_cases h with ⟨-, rfl⟩ | ⟨-, -, rfl⟩ | ⟨-, -, rfl⟩
    · exact .inl (ends (by simp [codesOf]) (by simp))
    · exact .inl (ends (by simp [codesOf]) (by simp))
    · exact .inr ⟨_, rfl, rfl, rfl⟩
  | endTx =>
    rcases execEnd_cases h with ⟨-, rfl⟩ | ⟨-, rfl⟩
    · exact .inl (ends (by simp [codesOf]) (by simp))
    · exact .inr ⟨_, rfl, rfl, rfl⟩

theorem exec_endsInRow (hrun : s.run = true) (h : exec i s = .next t) (hend : t.run = false) : EndsInRow i t := by
  rcases exec_ends_or_begins h with ⟨c, u, rfl, hc, hne⟩ | ⟨a, rfl, ha, hd⟩
  · exact complete_endsInRow hc hne
  · cases (runRoutine_drives_run (ha.trans hrun) hd).symm.trans hend

/-! The Sequencer. -/

/-- A routine runs only for a legal word (R172). -/
theorem routineOk_legal {l : Level} (h : routineOk s = true) (hl : s.upc.awaits = some l) : s.legal = true := by
  have running : ∀ {op}, Running op s → s.legal = true := fun ⟨_, _, hleg, _⟩ => hleg
  have stop : ∀ {c}, stopOk c s = true → s.legal = true := fun hs => by
    obtain ⟨-, -, hleg, -⟩ := stopOk_base hs
    exact hleg
  unfold routineOk at h
  cases hu : s.upc <;> simp only [hu, Bool.and_eq_true, and_assoc] at h
  case noRoutine => simp [hu, Upc.awaits] at hl
  case dispatch => simp [hu, Upc.awaits] at hl
  case rxHigh | rxLow => exact running (receiveOk_iff.1 h.1).1
  case mackLow | mackHigh | mackEnd => exact running (receiveOk_iff.1 h).1
  case stopLow => exact stop h
  case stopHigh => exact stop h.1
  all_goals exact running (frameOk_running h.1)

/-- A legal command ends its routine done, or with the code of its stop. -/
theorem passAwait_endsInRow (hr : routineOk s = true) (hi : decode s.cmd = .ok i) (hrun : s.run = true)
    (hend : (passAwait s).run = false) : EndsInRow i (passAwait s) := by
  rcases passAwait_ends s with hgo | ⟨u, hu⟩ | ⟨c, hu, hpass⟩
  · cases hend.symm.trans (hgo.trans hrun)
  · rw [hu]
    exact complete_endsInRow (ok_mem_codesOf i) (by simp)
  · obtain ⟨hs, -⟩ := (routineOk_stopHigh hu).1 hr
    have hlegal : c ≠ .illegalCommand := by rintro rfl; simp [stopOk] at hs
    refine ⟨c, _, hpass, mem_codesOf hi (stopOk_codeAllowed hs).1 hlegal, ?_⟩
    rintro rfl
    exact noAckPhase_of_stop (s := s) hi hs

theorem sequencerStep_endsInRow (hr : routineOk s = true) (hi : decode s.cmd = .ok i) (hrun : s.run = true)
    (h : sequencerStep s = .next t) (hend : t.run = false) : EndsInRow i t := by
  rcases sequencerStep_cases h with ⟨-, ⟨e, he⟩, -⟩ | ⟨-, j, hj, hx⟩ | ⟨hp, rfl | ⟨h1, rfl⟩⟩ | ⟨-, ⟨l, hl⟩, rfl⟩
  · cases hi.symm.trans he
  · cases hi.symm.trans hj
    exact exec_endsInRow (s := clearCounters s) hrun hx hend
  · exact passAwait_endsInRow hr hi hrun hend
  · have hgo : (passAwait s).run = false := (passAwait_drives_run (drives_after_pass hp h1)).symm.trans hend
    cases (canPass_of_not_running hgo).symm.trans h1
  · exact complete_endsInRow (mem_codesOf hi (routineOk_awaits hr hl).2.2 (by simp)) (by simp)

/-- An illegal word is still at its dispatch, where it ends (R172). -/
theorem sequencerStep_illegal {e : Illegal} (hr : routineOk s = true) (he : decode s.cmd = .error e)
    (h : sequencerStep s = .next t) : t = complete .illegalCommand (clearCounters s) := by
  have notLegal {l : Level} (hl : s.upc.awaits = some l) : False := by
    obtain ⟨i, hi⟩ := legal_iff.1 (routineOk_legal hr hl)
    cases he.symm.trans hi
  rcases sequencerStep_cases h with ⟨-, -, ht⟩ | ⟨-, i, hi, -⟩ | ⟨hp, -⟩ | ⟨-, ⟨l, hl⟩, -⟩
  · exact ht
  · cases he.symm.trans hi
  · obtain ⟨l, hl, -⟩ := canPass_awaits hp
    exact (notLegal hl).elim
  · exact (notLegal hl).elim

/-- Only the Sequencer ends a command. -/
theorem sequencer_of_run_falls {s' : State} {m : Move} (hm : nextMove s = (m, s')) (ht : step s = .next t)
    (hr : m ≠ .rst false) (hrun : s.run = true) (hend : t.run = false) : sequencerStep s' = .next t := by
  have hagent := step_agent hm ht hr
  obtain ⟨-, a, rfl⟩ := step_of_nextMove hm
  rcases hagent with ⟨-, hx⟩ | ⟨-, off, v, -, rfl⟩ | hk
  · exact hx
  · cases hend.symm.trans ((regWrite_run_result v { s with agenda := a } (hostReg off)).2 hrun)
  · cases hend.symm.trans (hk.run.trans hrun)

theorem ResultCode.code_eq_one (h : c.code.toNat = 1) : c = .noAck := by
  cases c <;> simp [ResultCode.code] at h ⊢

theorem NoAckPhase.toNat {ph : BitVec 2} (h : NoAckPhase i ph) :
    ((∃ sa ra md, i = .beginTx sa ra md) ∧ (ph.toNat = 1 ∨ ph.toNat = 2)) ∨
      (((∃ sa md, i = .rstart sa md) ∨ ∃ n cap, i = .read n cap) ∧ ph.toNat = 3) := by
  rcases h with ⟨hi, rfl | rfl⟩ | ⟨hi, rfl⟩
  · exact .inl ⟨hi, .inl rfl⟩
  · exact .inl ⟨hi, .inr rfl⟩
  · exact .inr ⟨hi, rfl⟩

end

/-- Settles O55: only the Sequencer ends a command; a legal word's ends in its row (`sequencerStep_endsInRow`), and an
illegal word has no routine. -/
theorem resultCodesInTheirRow : Obligations.ResultCodesInTheirRow := by
  unfold Obligations.ResultCodesInTheirRow
  intro s s' t m hinv hm ht hr hrun hend
  have hseq := sequencer_of_run_falls hm ht hr hrun hend
  obtain ⟨-, a, rfl⟩ := step_of_nextMove hm
  have hinv' : MachineInv { s with agenda := a } := hinv.update hinv.base
  obtain ⟨-, hroutine⟩ := machineInv_iff.1 hinv'
  refine ⟨fun i hi => ?_, fun e he => ?_⟩
  · obtain ⟨c, u, rfl, hc, hph⟩ := sequencerStep_endsInRow hroutine hi hrun hseq hend
    refine ⟨⟨c, hc, complete_result_code c u⟩, fun h1 => ?_⟩
    have hrow := (hph (ResultCode.code_eq_one ((complete_result_code c u).symm.trans h1))).toNat
    rwa [← complete_result_phase c u] at hrow
  · rw [sequencerStep_illegal hroutine he hseq, complete_result_code]
    rfl

end Sys2Proof.Machine

/-! The error paths of a routine: the stop after a NACK, and the forced release (R225, R226). -/

namespace Sys2Proof.Machine

open Sys2Proof.Claims

section
variable {s s' : State} {f : Frame} {ph : BitVec 2}

/-! The stop after a NACK (R184, R225). -/

/-- R184's phase code of a frame that is no payload byte. -/
theorem frameNacked_eq_stop
    (h : (f = .beginAddr ∧ ph = 1#2) ∨ (f = .beginReg ∧ ph = 2#2) ∨ ((∃ r, f = .restartAddr r) ∧ ph = 3#2))
    (s : State) : frameNacked f s = stopCondition .noAck { s with nakph := ph } := by
  rcases h with ⟨rfl, rfl⟩ | ⟨rfl, rfl⟩ | ⟨⟨r, rfl⟩, rfl⟩ <;> rfl

/-- What the step that returns a NACK leaves: SDA pulled low for the stop, which waits for HIGH. -/
def nackedStop (ph : BitVec 2) (s : State) : State :=
  { s with nakph := ph, state := .stopCondition, sdaDrv := .low, upc := .stopHigh .noAck }

/-- A NACK begins its stop in the step that returns it. -/
theorem FrameEnds.step_nackedStop (h : FrameEnds f s s') (ha : s.ackr = false)
    (hstop : frameNacked f s' = stopCondition .noAck { s' with nakph := ph }) :
    step s = .next (nackedStop ph s') := by
  have hrun : s'.run = true := by
    obtain ⟨-, a, rfl⟩ := step_of_nextMove h.move
    exact h.run
  exact h.step_drives ((h.passAwait_nacked ha).trans hstop) hrun rfl

end

/-- Settles O47: the NACK's step pulls SDA low (`FrameEnds.step_nackedStop`), and the stop ends at the rising tick. -/
theorem nackAbortsWithStop : Obligations.NackAbortsWithStop := by
  unfold Obligations.NackAbortsWithStop
  intro f s ph hf hr hrun he hscla hsclO hp ha hscl hbound hu hnack
  have hend : FrameEnds f s s := ⟨nextMove_of_nil ha, hr, hrun, hp, hu⟩
  have hstep := hend.step_nackedStop hnack (frameNacked_eq_stop hf s)
  have hclock : Clocked (nackedStop ph s) := ⟨hr, hrun, he, hscla, hsclO.trans hp.symm, hbound⟩
  obtain ⟨hruns, -⟩ := hclock.stopHigh_completes rfl hp ha hscl
  exact ⟨⟨_, runsTo_succ.2 ⟨_, hstep, rfl⟩, rfl, rfl, rfl, hrun⟩,
    ⟨_, runsTo_succ.2 ⟨_, hstep, hruns⟩, rfl, rfl, rfl, rfl, rfl, rfl⟩⟩

/-! The timeout (R140, R226, R228). -/

/-- With its bound reached a routine has a Sequencer step, blocked or not (R22). -/
theorem sequencerEnabled_of_timedOut {s : State} (hrun : s.run = true) (hbound : s.timedOut = true) :
    s.sequencerEnabled = true := by
  simp [State.sequencerEnabled, hrun, hbound]

/-- Settles O48: the bound gives the Sequencer its step, which goes on where the await holds and else releases. -/
theorem timeoutForcesRelease : Obligations.TimeoutForcesRelease := by
  unfold Obligations.TimeoutForcesRelease
  intro s s' l hm hr hrun hl hbound
  have hstep := (sequencerBeforeTick s s' hm hr).1 (sequencerEnabled_of_timedOut hrun (decide_eq_true hbound))
  obtain ⟨-, a, rfl⟩ := step_of_nextMove hm
  rw [hstep]
  refine ⟨fun hh => ?_, fun hh => ?_⟩
  · exact sequencerStep_timeout (s := { s with agenda := a }) hl (not_canPass_of_level hl hh)
  · have hpass : ({ s with agenda := a } : State).canPass = true := by
      simp only [State.canPass, hrun, hl, Bool.true_and]
      exact hh
    exact sequencerStep_pass hpass

/-! Every step answers (R20, R230). -/

section
variable {s : State}

theorem Upc.cases_of_no_await {p : Upc} (h : p.awaits = none) : p = .noRoutine ∨ p = .dispatch := by
  cases p <;> simp [Upc.awaits] at h ⊢

/-- A running command stands at its dispatch or at an await. -/
theorem dispatch_or_awaits (hr : routineOk s = true) (hrun : s.run = true) :
    s.upc = .dispatch ∨ ∃ l, s.upc.awaits = some l := by
  cases hl : s.upc.awaits with
  | some l => exact .inr ⟨l, rfl⟩
  | none =>
    rcases Upc.cases_of_no_await hl with hu | hu
    · cases hrun.symm.trans ((routineOk_noRoutine hu).1 hr).1
    · exact .inl hu

theorem dispatchStep_next (s : State) : ∃ t, dispatchStep s = .next t := by
  unfold dispatchStep
  split
  · exact ⟨_, rfl⟩
  · exact exec_next _ _

/-- The Sequencer's one fault is for a command that runs with no routine. -/
theorem sequencerStep_next (hr : routineOk s = true) (hrun : s.run = true) : ∃ t, sequencerStep s = .next t := by
  rcases dispatch_or_awaits hr hrun with hu | ⟨l, hl⟩
  · rw [sequencerStep_dispatch hu]
    exact dispatchStep_next s
  · cases hp : s.canPass with
    | true => exact ⟨_, sequencerStep_pass hp⟩
    | false => exact ⟨_, sequencerStep_timeout hl hp⟩

theorem blockStep_next (hr : routineOk s = true) : ∃ t, blockStep s = .next t := by
  unfold blockStep
  split
  · exact ⟨_, rfl⟩
  · split
    · rename_i hq
      simp only [State.sequencerEnabled, Bool.and_eq_true] at hq
      exact sequencerStep_next hr hq.1
    · split <;> exact ⟨_, rfl⟩

end

/-- Settles O52: only the block's move can stop, and the invariant gives a running command its routine. -/
theorem invNeverStops : Obligations.InvNeverStops := by
  unfold Obligations.InvNeverStops
  intro s hinv
  rcases step_cases s with ⟨-, hs⟩ | ⟨m, ms, -, hs⟩ <;> rw [hs]
  · exact blockStep_next (machineInv_iff.1 hinv).2
  · have hinv' : MachineInv { s with agenda := ms } := hinv.update hinv.base
    cases m with
    | block => exact blockStep_next (machineInv_iff.1 hinv').2
    | _ => exact ⟨_, rfl⟩

end Sys2Proof.Machine

/-! The awaits left to a routine (R149, R238): every one that is passed leaves fewer, and no command has more than a
WRITE. -/

namespace Sys2Proof.Machine

open Sys2Proof.Claims

/-! A byte on the wire has 19 awaits: two for each bit, and three for its acknowledgement. -/

/-- At most how many awaits follow a frame's last, at byte `i` of `count` in attempt `att`: the next frame or byte, the
other attempts, the stop (R177–R182). -/
def Frame.awaitsAfter (count i att : Nat) : Frame → Nat
  | .beginAddr           => 19 + 2
  | .beginReg            => 2
  | .restartAddr .rstart => 2
  | .restartAddr .read   => 19 * count + 2
  | .payload             => 19 * 10 * (count - (i + 1)) + 19 * (10 - att) + 2

/-- At most how many awaits a routine at this position has still to pass, its own included. -/
def Upc.awaitsLeft (count i att : Nat) : Upc → Nat
  | .noRoutine   => 0
  | .dispatch    => 0
  | .bitLow f k  => 2 * k.val + 5 + f.awaitsAfter count i att
  | .bitHigh f k => 2 * k.val + 4 + f.awaitsAfter count i att
  | .ackLow f    => 3 + f.awaitsAfter count i att
  | .ackHigh f   => 2 + f.awaitsAfter count i att
  | .ackEnd f    => 1 + f.awaitsAfter count i att
  | .rsLow r     => 21 + (Frame.restartAddr r).awaitsAfter count i att
  | .rsHigh r    => 20 + (Frame.restartAddr r).awaitsAfter count i att
  | .rxHigh k    => 2 * k.val + 5 + 19 * (count - (i + 1))
  | .rxLow k _   => 2 * k.val + 4 + 19 * (count - (i + 1))
  | .mackLow     => 3 + 19 * (count - (i + 1))
  | .mackHigh    => 2 + 19 * (count - (i + 1))
  | .mackEnd     => 1 + 19 * (count - (i + 1))
  | .stopLow _   => 2
  | .stopHigh _  => 1

def State.awaitsLeft (s : State) : Nat := s.upc.awaitsLeft s.count s.i.toNat s.att.toNat

def State.awaitsAfter (s : State) (f : Frame) : Nat := f.awaitsAfter s.count s.i.toNat s.att.toNat

section
variable {s t : State} {f : Frame} {l : Level}

theorem toNat_ofNat_of_lt_count {j : Nat} (hj : j < s.count) : (BitVec.ofNat 9 j).toNat = j :=
  Nat.mod_eq_of_lt (Nat.lt_trans hj (Word.count s.cmd).isLt)

/-- READ's byte `j` and all after it. -/
theorem awaitsLeft_beginReceive {j : Nat} (hj : j < s.count) :
    (beginReceive j s).awaitsLeft = 19 * (s.count - j) := by
  have hi : (BitVec.ofNat 9 j).toNat = j := toNat_ofNat_of_lt_count hj
  have hleft : (beginReceive j s).awaitsLeft = 2 * 7 + 5 + 19 * (s.count - ((BitVec.ofNat 9 j).toNat + 1)) := rfl
  rw [hleft, hi]
  omega

/-- WRITE's byte `j` at its first attempt, and all after it. -/
theorem awaitsLeft_loadPayload {j : Nat} (hj : j < s.count) :
    (loadPayload j s).awaitsLeft = 19 * 10 * (s.count - j) + 2 := by
  have hi : (BitVec.ofNat 9 j).toNat = j := toNat_ofNat_of_lt_count hj
  have hleft : (loadPayload j s).awaitsLeft =
      2 * 7 + 5 + (19 * 10 * (s.count - ((BitVec.ofNat 9 j).toNat + 1)) + 19 * (10 - 1) + 2) := rfl
  rw [hleft, hi]
  omega

theorem awaitsLeft_complete (c : ResultCode) (s : State) : (complete c s).awaitsLeft = 0 := rfl

theorem frameAcked_awaitsLeft (f : Frame) (s : State) : (frameAcked f s).awaitsLeft ≤ s.awaitsAfter f := by
  rcases f with _ | _ | (_ | _) | _
  case beginAddr => exact Nat.le_refl 21
  case restartAddr.read =>
    simp only [frameAcked, beginPayloadRead]
    split
    · rename_i hc
      rw [awaitsLeft_beginReceive hc]
      exact Nat.le_add_right _ _
    · exact Nat.zero_le _
  case payload =>
    have hafter : s.awaitsAfter .payload = 19 * 10 * (s.count - (s.i.toNat + 1)) + 19 * (10 - s.att.toNat) + 2 := rfl
    simp only [frameAcked]
    split
    · rename_i hc
      have hcount : ({ s with xfer := s.i + 1#9 } : State).count = s.count := rfl
      rw [awaitsLeft_loadPayload hc, hafter, hcount]
      omega
    · exact Nat.zero_le _
  all_goals exact Nat.zero_le _

/-- A frame that fails has a stop left, or one attempt less (R182, R225). -/
theorem frameNacked_awaitsLeft (hf : frameOk f s = true) : (frameNacked f s).awaitsLeft ≤ s.awaitsAfter f := by
  rcases f with _ | _ | (_ | _) | _
  case payload =>
    obtain ⟨-, -, -, -, -, hhi⟩ := frameOk_payload.1 hf
    simp only [frameNacked]
    split
    · exact Nat.le_add_left _ _
    · rename_i hatt
      have hnext : (s.att + 1#4).toNat = s.att.toNat + 1 ∧ s.att.toNat + 1 ≤ 10 := by
        unfold retryLimit at hatt hhi
        bv_omega
      simp only [State.awaitsLeft, State.awaitsAfter, Upc.awaitsLeft, Frame.awaitsAfter, State.count, hnext.1]
      omega
  case restartAddr.read => exact Nat.le_add_left _ _
  case beginAddr => exact Nat.le_add_left _ _
  all_goals exact Nat.le_refl _

/-- Every await that is passed leaves fewer. -/
theorem passAwait_awaitsLeft (hr : routineOk s = true) (hl : s.upc.awaits = some l) :
    (passAwait s).awaitsLeft < s.awaitsLeft := by
  cases hu : s.upc with
  | noRoutine => simp [hu, Upc.awaits] at hl
  | dispatch => simp [hu, Upc.awaits] at hl
  | bitHigh f k =>
    by_cases hk : k = 0
    · simp [passAwait, hu, hk, State.awaitsLeft, Upc.awaitsLeft, State.count]
    · have hpos : k.val ≠ 0 := fun h => hk (Fin.ext h)
      simp only [passAwait, hu, if_neg hk, State.awaitsLeft, Upc.awaitsLeft, State.count, nextBit]
      omega
  | ackEnd f =>
    have hleft : s.awaitsLeft = 1 + s.awaitsAfter f := by rw [State.awaitsLeft, hu]; rfl
    obtain ⟨hf, -⟩ := (routineOk_ackEnd hu).1 hr
    rw [hleft, Nat.add_comm, Nat.lt_succ_iff]
    cases ha : s.ackr with
    | true =>
      rw [passAwait_acked hu ha]
      exact frameAcked_awaitsLeft f s
    | false =>
      rw [passAwait_nacked hu ha]
      exact frameNacked_awaitsLeft hf
  | rxLow k b =>
    by_cases hk : k = 0
    · simp [passAwait, receivedBit, hu, hk, State.awaitsLeft, Upc.awaitsLeft, State.count]
    · have hpos : k.val ≠ 0 := fun h => hk (Fin.ext h)
      simp only [passAwait, receivedBit, hu, if_neg hk, State.awaitsLeft, Upc.awaitsLeft, State.count, nextBit]
      omega
  | mackEnd =>
    have hleft : s.awaitsLeft = 1 + 19 * (s.count - (s.i.toNat + 1)) := by rw [State.awaitsLeft, hu]; rfl
    simp only [passAwait, hu]
    split
    · rename_i hc
      rw [awaitsLeft_beginReceive hc, hleft]
      exact Nat.lt_add_of_pos_left Nat.one_pos
    · rw [awaitsLeft_complete, hleft]
      omega
  | stopHigh c =>
    simp only [passAwait, hu, awaitsLeft_complete]
    simp [State.awaitsLeft, hu, Upc.awaitsLeft]
  | _ => simp [passAwait, hu, State.awaitsLeft, Upc.awaitsLeft, State.count]

/-- What a step passes leaves fewer. -/
theorem runRoutine_awaitsLeft (h : MachineInv s) (hp : s.canPass = true) :
    (runRoutine s).awaitsLeft < s.awaitsLeft := by
  have pass {a : State} (ha : MachineInv a) (hpa : a.canPass = true) : (passAwait a).awaitsLeft < a.awaitsLeft := by
    obtain ⟨l, hl, -⟩ := canPass_awaits hpa
    exact passAwait_awaitsLeft (machineInv_iff.1 ha).2 hl
  rcases runRoutine_passes s with hr | ⟨-, hr⟩ | ⟨-, h1, hr⟩
  · cases hp.symm.trans (hr ▸ runRoutine_stops s)
  · rw [hr]
    exact pass h hp
  · rw [hr]
    exact Nat.lt_trans (pass (passAwait_inv h) h1) (pass h hp)

/-! The bound of R238: a WRITE has the most awaits, ten attempts of 256 bytes and the stop. -/

/-- A legal WRITE sends at most as many bytes as a buffer has entries (R83). -/
theorem count_le_of_legal_write (hl : s.legal = true) (hop : Word.op s.cmd = 4#4) : s.count ≤ bufSize := by
  obtain ⟨i, hi⟩ := legal_iff.1 hl
  have hc := carries_of_decode hi
  cases i with
  | write n =>
    obtain ⟨-, rfl, hn⟩ := hc
    exact hn
  | _ => simp [Carries, hop] at hc

/-- After a payload frame: 255 other bytes of ten attempts, nine other attempts, the stop. -/
theorem frameOk_awaitsAfter (hf : frameOk f s = true) : s.awaitsAfter f ≤ 48623 := by
  obtain ⟨-, -, hleg, hop, -⟩ := frameOk_running hf
  rcases f with _ | _ | (_ | _) | _ <;> simp only [State.awaitsAfter, Frame.awaitsAfter]
  case restartAddr.read =>
    have hcount : s.count ≤ 256 := count_le_of_legal_read hleg hop
    omega
  case payload =>
    obtain ⟨-, -, hi, -, hlo, -⟩ := frameOk_payload.1 hf
    have hcount : s.count ≤ 256 := count_le_of_legal_write hleg hop
    have hatt : 1 ≤ s.att.toNat := hlo
    omega
  all_goals omega

theorem receiveOk_bytesLeft {d : Nat} (hr : receiveOk d s = true) : s.count - (s.i.toNat + 1) ≤ 255 := by
  obtain ⟨⟨-, -, hleg, hop, -⟩, -⟩ := receiveOk_iff.1 hr
  have hcount : s.count ≤ 256 := count_le_of_legal_read hleg hop
  omega

theorem routineOk_awaitsLeft (hr : routineOk s = true) : s.awaitsLeft ≤ 48644 := by
  have frame {f : Frame} (hf : frameOk f s = true) : f.awaitsAfter s.count s.i.toNat s.att.toNat ≤ 48623 :=
    frameOk_awaitsAfter hf
  unfold routineOk at hr
  cases hu : s.upc <;> simp only [hu, Bool.and_eq_true, and_assoc] at hr <;>
    simp only [State.awaitsLeft, hu, Upc.awaitsLeft]
  case noRoutine | dispatch | stopLow | stopHigh => omega
  case rxHigh | rxLow =>
    have := receiveOk_bytesLeft hr.1
    omega
  case mackLow | mackHigh | mackEnd =>
    have := receiveOk_bytesLeft hr
    omega
  all_goals
    have := frame hr.1
    omega

end
end Sys2Proof.Machine

/-! A waiting routine with no input to come (R238): each of its steps ends the command or leaves fewer. -/

namespace Sys2Proof.Machine

open Sys2Proof.Claims

section
variable {s t : State} {l : Level}

theorem passAwait_waits (hl : s.upc.awaits = some l) :
    (passAwait s).run = false ∨ ∃ l', (passAwait s).upc.awaits = some l' := by
  cases l with
  | high =>
    rcases passAwait_after_high hl with h | h
    · exact .inr ⟨_, h⟩
    · exact .inl h
  | low =>
    rcases passAwait_after_low hl with h | h | ⟨f, h⟩ | h | ⟨c, h⟩
    · exact .inr ⟨_, h⟩
    · exact .inl h
    all_goals exact .inr ⟨.low, congrArg Upc.awaits h⟩

/-- A routine stays at its awaits until its command ends. -/
theorem runRoutine_waits (hl : s.upc.awaits = some l) :
    (runRoutine s).run = false ∨ ∃ l', (runRoutine s).upc.awaits = some l' := by
  rcases runRoutine_passes s with hr | ⟨-, hr⟩ | ⟨hp, h1, hr⟩ <;> rw [hr]
  · exact .inr ⟨l, hl⟩
  · exact passAwait_waits hl
  · exact .inr ⟨_, passAwait_drives_awaits (drives_after_pass hp h1)⟩

/-- A command's dispatch part ends it or leaves its routine at an await. -/
theorem exec_waits {i : Instr} (h : exec i s = .next t) : t.run = false ∨ ∃ l', t.upc.awaits = some l' := by
  rcases exec_ends_or_begins h with ⟨c, u, rfl, -, -⟩ | ⟨a, rfl, -, hd⟩
  · exact .inl rfl
  · exact runRoutine_waits (Upc.awaits_of_drives hd)

/-- A command's routine waits at an await, and no input is to come. -/
structure Waiting (s : State) : Prop where
  inv    : MachineInv s
  rstN   : s.rstN = true
  agenda : s.agenda = []
  awaits : ∃ l, s.upc.awaits = some l

/-- At most how many held ticks come before the timeout, where the environment holds SCL (R104, R140). -/
def heldTicksLeft (s : State) : Nat :=
  if s.eSclLow then if s.phase then 0xFFFF - s.stretchCnt.toNat else 0x10000 else 0

/-- At most how many steps a waiting routine has left: a tick and a pass for each await, the first tick only where the
await does not hold, and the held ticks. -/
def stepsLeft (s : State) : Nat :=
  2 * s.awaitsLeft + (if s.canPass then 0 else 1) + heldTicksLeft s

theorem stepsLeft_of_canPass (hp : s.canPass = true) : stepsLeft s = 2 * s.awaitsLeft + heldTicksLeft s := by
  rw [stepsLeft, if_pos hp, Nat.add_zero]

theorem stepsLeft_of_blocked (hp : s.canPass = false) : stepsLeft s = 2 * s.awaitsLeft + 1 + heldTicksLeft s := by
  rw [stepsLeft, if_neg (by simp [hp])]

theorem heldTicksLeft_of_released (h : s.eSclLow = false) : heldTicksLeft s = 0 := by
  simp [heldTicksLeft, h]

theorem heldTicksLeft_of_held_low (h : s.eSclLow = true) (hp : s.phase = false) : heldTicksLeft s = 0x10000 := by
  simp [heldTicksLeft, h, hp]

theorem heldTicksLeft_of_held_high (h : s.eSclLow = true) (hp : s.phase = true) :
    heldTicksLeft s = 0xFFFF - s.stretchCnt.toNat := by
  simp [heldTicksLeft, h, hp]

theorem stepsLeft_le (s : State) : stepsLeft s ≤ 2 * s.awaitsLeft + 1 + heldTicksLeft s := by
  unfold stepsLeft
  split <;> omega

/-- What a held tick leaves (R104). -/
def heldTick (s : State) : State := { s with stretchCnt := saturatingSucc s.stretchCnt, tcnt := 0#32 }

theorem toNat_saturatingSucc {n : BitVec 16} (h : n.toNat < 0xFFFF) : (saturatingSucc n).toNat = n.toNat + 1 := by
  rw [saturatingSucc, if_neg (by bv_omega)]
  bv_omega

theorem Waiting.run (h : Waiting s) : s.run = true := by
  obtain ⟨l, hl⟩ := h.awaits
  exact (routineOk_awaits (machineInv_iff.1 h.inv).2 hl).1

theorem Waiting.step_eq (h : Waiting s) (hq : s.sequencerEnabled = true) : step s = sequencerStep s := by
  rw [step_of_nil h.agenda, blockStep_sequencer h.rstN hq]

/-- Before its bound is reached the waiting routine's clock runs, with SCL at the phase (R44). -/
theorem Waiting.clocked (h : Waiting s) (hbound : s.timedOut = false) : Clocked s := by
  obtain ⟨l, hl⟩ := h.awaits
  obtain ⟨⟨-, ⟨-, hon, -⟩, -⟩, hr⟩ := machineInv_iff.1 h.inv
  obtain ⟨hrun, he, -⟩ := routineOk_awaits hr hl
  obtain ⟨hscla, hsclO, -⟩ := hon he
  exact ⟨h.rstN, hrun, he, hscla, hsclO, BitVec.not_le.1 (of_decide_eq_false hbound)⟩

theorem Waiting.not_holds (h : Waiting s) (hp : s.canPass = false) (hl : s.upc.awaits = some l) :
    s.holds l = false := by
  rw [State.canPass, h.run, hl, Bool.true_and] at hp
  exact hp

/-- An await that holds is passed, and so there are fewer. -/
theorem Waiting.step_pass (h : Waiting s) (hp : s.canPass = true) :
    ∃ t, step s = .next t ∧ (t.run = false ∨ (Waiting t ∧ stepsLeft t < stepsLeft s)) := by
  obtain ⟨l, hl⟩ := h.awaits
  have hk := runRoutine_kept s
  refine ⟨runRoutine s, by rw [h.step_eq (sequencerEnabled_of_canPass hp), sequencerStep_pass hp], ?_⟩
  refine (runRoutine_waits hl).imp_right fun hw =>
    ⟨⟨runRoutine_inv h.inv, hk.rstN.trans h.rstN, hk.agenda.trans h.agenda, hw⟩, ?_⟩
  have hheld : heldTicksLeft (runRoutine s) = heldTicksLeft s := by
    simp only [heldTicksLeft, hk.eSclLow, hk.phase, hk.stretchCnt]
  have hleft := runRoutine_awaitsLeft h.inv hp
  rw [stepsLeft_of_blocked (runRoutine_stops s), stepsLeft_of_canPass hp, hheld]
  omega

/-- Where SCL is not held the await comes to hold with the next tick. -/
theorem Waiting.canPass_unheldTick (h : Waiting s) (hp : s.canPass = false) (hbound : s.timedOut = false)
    (hscl : s.eSclLow = false) : (unheldTick s).canPass = true := by
  obtain ⟨l, hl⟩ := h.awaits
  have hc := h.clocked hbound
  have hh := h.not_holds hp hl
  refine hc.next_phase.canPass (s := unheldTick s) hl ?_
  cases hphase : s.phase with
  | false =>
    cases l with
    | low => cases (holds_low hphase).symm.trans hh
    | high => exact hc.next_phase.holds_high (congrArg not hphase) hscl
  | true =>
    cases l with
    | low => exact holds_low (congrArg not hphase)
    | high => cases (hc.holds_high hphase hscl).symm.trans hh

/-- A tick that inverts the phase brings the await to hold, or begins the held ticks. -/
theorem Waiting.step_invert (h : Waiting s) (hp : s.canPass = false) (hbound : s.timedOut = false)
    (hscl : s.phase = false ∨ s.eSclLow = false) :
    ∃ t, step s = .next t ∧ Waiting t ∧ stepsLeft t < stepsLeft s := by
  obtain ⟨l, hl⟩ := h.awaits
  have hstep := (h.clocked hbound).step_ticks (nextMove_of_nil h.agenda) hl (h.not_holds hp hl) hscl
  refine ⟨_, hstep, ⟨step_inv h.inv hstep, h.rstN, h.agenda, l, hl⟩, ?_⟩
  have hleft : (unheldTick s).awaitsLeft = s.awaitsLeft := rfl
  have henv : (unheldTick s).eSclLow = s.eSclLow := rfl
  cases he : s.eSclLow with
  | false =>
    rw [stepsLeft_of_canPass (h.canPass_unheldTick hp hbound he), stepsLeft_of_blocked hp, hleft,
      heldTicksLeft_of_released he, heldTicksLeft_of_released (henv.trans he)]
    omega
  | true =>
    have hphase : s.phase = false := hscl.resolve_right (by simp [he])
    have hnew : (unheldTick s).phase = true := congrArg not hphase
    have hle := stepsLeft_le (unheldTick s)
    rw [hleft, heldTicksLeft_of_held_high (henv.trans he) hnew] at hle
    rw [stepsLeft_of_blocked hp, heldTicksLeft_of_held_low he hphase]
    omega

/-- A held tick brings the timeout nearer. -/
theorem Waiting.step_held (h : Waiting s) (hp : s.canPass = false) (hbound : s.timedOut = false)
    (hphase : s.phase = true) (hscl : s.eSclLow = true) :
    ∃ t, step s = .next t ∧ Waiting t ∧ stepsLeft t < stepsLeft s := by
  obtain ⟨l, hl⟩ := h.awaits
  have hc := h.clocked hbound
  have hin : s.sclIn = false := by simp [State.sclIn, hscl]
  have hq := not_sequencerEnabled_of_blocked hl (h.not_holds hp hl) hbound
  have hstep : step s = .next (heldTick s) := by
    rw [step_of_nil h.agenda, blockStep_tick h.rstN hq hc.enabled, tickExpiry_held hphase hin, heldTick]
  refine ⟨_, hstep, ⟨step_inv h.inv hstep, h.rstN, h.agenda, l, hl⟩, ?_⟩
  have hlt := BitVec.lt_def.1 hc.bound
  have hnext : (heldTick s).stretchCnt.toNat = s.stretchCnt.toNat + 1 := toNat_saturatingSucc (by omega)
  have hleft : (heldTick s).awaitsLeft = s.awaitsLeft := rfl
  rw [stepsLeft_of_blocked (s := heldTick s) hp, stepsLeft_of_blocked hp, hleft,
    heldTicksLeft_of_held_high (s := heldTick s) hscl hphase, heldTicksLeft_of_held_high hscl hphase, hnext]
  omega

/-- Each step of a waiting routine ends its command or leaves fewer. -/
theorem Waiting.step_decreases (h : Waiting s) :
    ∃ t, step s = .next t ∧ (t.run = false ∨ (Waiting t ∧ stepsLeft t < stepsLeft s)) := by
  cases hp : s.canPass with
  | true => exact h.step_pass hp
  | false =>
    cases hbound : s.timedOut with
    | true =>
      obtain ⟨l, hl⟩ := h.awaits
      refine ⟨forcedRelease s, ?_, .inl rfl⟩
      rw [h.step_eq (sequencerEnabled_of_timedOut h.run hbound), sequencerStep_timeout hl hp]
    | false =>
      by_cases hscl : s.phase = false ∨ s.eSclLow = false
      · obtain ⟨t, hstep, ht⟩ := h.step_invert hp hbound hscl
        exact ⟨t, hstep, .inr ht⟩
      · obtain ⟨hphase, henv⟩ : s.phase = true ∧ s.eSclLow = true := by simpa using hscl
        obtain ⟨t, hstep, ht⟩ := h.step_held hp hbound hphase henv
        exact ⟨t, hstep, .inr ht⟩

/-- By induction on a bound of the steps left. -/
theorem Waiting.completes {n : Nat} (h : Waiting s) (hn : stepsLeft s ≤ n) :
    ∃ k t, k ≤ n + 1 ∧ runsTo k s t ∧ t.run = false := by
  induction n using Nat.strong_induction_on generalizing s with
  | _ n ih =>
    obtain ⟨u, hstep, hend | ⟨hu, hlt⟩⟩ := h.step_decreases
    · exact ⟨1, u, Nat.le_add_left 1 n, runsTo_succ.2 ⟨u, hstep, rfl⟩, hend⟩
    · obtain ⟨k, t, hk, hruns, ht⟩ := ih (stepsLeft u) (Nat.lt_of_lt_of_le hlt hn) hu (Nat.le_refl _)
      exact ⟨k + 1, t, by omega, runsTo_succ.2 ⟨u, hstep, hruns⟩, ht⟩

/-- A tick and a pass for each await, and one more than TOLIM's largest value of held ticks (R39, R238). -/
theorem Waiting.stepsLeft_bound (h : Waiting s) : stepsLeft s ≤ 162825 := by
  have hleft := routineOk_awaitsLeft (machineInv_iff.1 h.inv).2
  have hheld : heldTicksLeft s ≤ 0x10000 := by
    unfold heldTicksLeft
    split_ifs <;> omega
  have hle := stepsLeft_le s
  omega

/-- The dispatch step ends its command or leaves its routine waiting. -/
theorem step_dispatch_waits (hinv : MachineInv s) (hr : s.rstN = true) (hrun : s.run = true) (ha : s.agenda = [])
    (hu : s.upc = .dispatch) : ∃ t, step s = .next t ∧ (t.run = false ∨ Waiting t) := by
  obtain ⟨t, ht⟩ := invNeverStops s hinv
  refine ⟨t, ht, ?_⟩
  have hx : dispatchStep s = .next t := (step_dispatching ⟨nextMove_of_nil ha, hr, hrun, hu⟩).symm.trans ht
  cases hd : decode s.cmd with
  | error e =>
    rw [dispatchStep, hd] at hx
    cases hx
    exact .inl rfl
  | ok i =>
    rw [dispatchStep_ok hd] at hx
    obtain ⟨-, -, -, -, -, -, -, hrst, -, -, hagenda⟩ := exec_keeps hx
    exact (exec_waits hx).imp_right fun hw => ⟨step_inv hinv ht, hrst.trans hr, hagenda.trans ha, hw⟩

end

/-- Settles O35: after its dispatch a running command waits, and a waiting routine's `stepsLeft` gets less in each step. -/
theorem runningCommandCompletes : Obligations.RunningCommandCompletes := by
  unfold Obligations.RunningCommandCompletes
  intro s hinv hr hrun ha
  rcases dispatch_or_awaits (machineInv_iff.1 hinv).2 hrun with hu | hl
  · obtain ⟨u, hstep, hend | hu⟩ := step_dispatch_waits hinv hr hrun ha hu
    · exact ⟨1, u, by decide, runsTo_succ.2 ⟨u, hstep, rfl⟩, hend⟩
    · obtain ⟨k, t, hk, hruns, ht⟩ := hu.completes hu.stepsLeft_bound
      exact ⟨k + 1, t, by omega, runsTo_succ.2 ⟨u, hstep, hruns⟩, ht⟩
  · have hw : Waiting s := ⟨hinv, hr, ha, hl⟩
    obtain ⟨k, t, hk, hruns, ht⟩ := hw.completes hw.stepsLeft_bound
    exact ⟨k, t, by omega, hruns, ht⟩

end Sys2Proof.Machine

/-! Between commands and in reset (R250, R254, R264): the block's own moves, where the Sequencer has none. -/

namespace Sys2Proof.Machine

open Sys2Proof.Claims

section
variable {s t u : State}

/-- `t` differs from `s` at most in what the Tick agent writes (R104). -/
def TickedOnly (s t : State) : Prop := ∃ ph so sc tc, t = { s with phase := ph, sclO := so, stretchCnt := sc, tcnt := tc }

theorem TickedOnly.refl (s : State) : TickedOnly s s := ⟨s.phase, s.sclO, s.stretchCnt, s.tcnt, rfl⟩

theorem TickedOnly.trans (h : TickedOnly s t) (h' : TickedOnly t u) : TickedOnly s u := by
  obtain ⟨_, _, _, _, rfl⟩ := h
  obtain ⟨ph, so, sc, tc, rfl⟩ := h'
  exact ⟨ph, so, sc, tc, rfl⟩

/-- With no command running and no input the block ticks or does nothing (R22, R23, R237). -/
theorem step_tickedOnly (hrun : s.run = false) (ha : s.agenda = []) (h : step s = .next t) : TickedOnly s t := by
  rw [step_of_nil ha] at h
  rcases blockStep_cases h with ⟨-, rfl⟩ | ⟨-, hq, -⟩ | ⟨-, -, -, rfl⟩ | ⟨-, -, -, rfl⟩
  · exact .refl t
  · cases (not_sequencerEnabled_of_idle hrun).symm.trans hq
  · exact ⟨_, _, _, _, tickExpiry_eq s⟩
  · exact .refl t

theorem runsTo_tickedOnly {k : Nat} (hrun : s.run = false) (ha : s.agenda = []) (h : runsTo k s t) : TickedOnly s t := by
  induction k generalizing s with
  | zero => exact runsTo_zero.1 h ▸ .refl s
  | succ k ih =>
    obtain ⟨u, hu, hrest⟩ := runsTo_succ.1 h
    have hfirst := step_tickedOnly hrun ha hu
    refine hfirst.trans (ih ?_ ?_ hrest)
    all_goals obtain ⟨_, _, _, _, rfl⟩ := hfirst
    · exact hrun
    · exact ha

/-- R264's mask leaves PHASE and SCL_IN out of the observed STATUS. -/
theorem bitAt_observed_mask (b : Bool) :
    bitAt b 4 &&& 0xFFFFFF2F#32 = 0#32 ∧ bitAt b 7 &&& 0xFFFFFF2F#32 = 0#32 := by
  cases b <;> decide

theorem TickedOnly.observe_eq (h : TickedOnly s t) : t.observe = s.observe := by
  obtain ⟨ph, so, sc, tc, rfl⟩ := h
  have hstatus : ∀ v : State, v.statusWord &&& 0xFFFFFF2F#32 = (bitAt v.run 0 ||| bitAt (v.state != .idle) 1
      ||| bitAt v.configured 2 ||| bitAt v.enabled 3 ||| bitAt v.scla 5 ||| bitAt v.sdaIn 6 ||| fieldAt v.state.code 8
      ||| bitAt v.ovr 11 ||| bitAt v.ackr 12 ||| fieldAt v.sdaDrv.code 13) &&& 0xFFFFFF2F#32 := fun v => by
    simp only [State.statusWord, BitVec.and_or_distrib_right, bitAt_observed_mask, BitVec.or_zero]
  rw [State.observe, State.observe, hstatus, hstatus s]
  rfl

end

/-- Settles O57: each step only ticks (`step_tickedOnly`), which the observation does not show. -/
theorem openTransactionOnlyTicks : Obligations.OpenTransactionOnlyTicks := by
  unfold Obligations.OpenTransactionOnlyTicks
  intro k s t _ hrun ha hruns
  have h := runsTo_tickedOnly hrun ha hruns
  exact ⟨h, h.observe_eq⟩

/-! The reset input (R250). -/

/-- While `rst_n` is 0 every host read returns 0. -/
theorem hostValue_in_reset {s : State} (hr : s.rstN = false) (off : BitVec 12) : hostValue s off = 0#32 := by
  rw [hostValue, hr]
  rfl

/-- Settles O2: asserting writes `resetBlock`, releasing the level alone; at level 0 each agent tests the level first. -/
theorem resetInput : Obligations.ResetInput := by
  unfold Obligations.ResetInput
  refine ⟨fun s s' hm => ?_, fun s s' hm => (step_of_nextMove hm).1, fun s s' hr => ⟨fun hm => ?_, fun hm => ?_⟩⟩
  · obtain ⟨hs, a, rfl⟩ := step_of_nextMove hm
    exact hs
  · rcases hm with hm | hm | ⟨off, v, hm⟩
    all_goals obtain ⟨hs, a, rfl⟩ := step_of_nextMove hm
    · rw [hs, doMove, blockStep, hr]
      rfl
    · rw [hs, doMove, clkStep, hr]
      rfl
    · rw [hs, doMove, hostStore, hr]
      rfl
  · rcases hm with ⟨off, hm⟩ | hm
    all_goals
      obtain ⟨hs, a, rfl⟩ := step_of_nextMove hm
      have hval := hostValue_in_reset (s := { s with agenda := a }) hr
    · rw [hs, doMove, hval]
    · rw [hs, doMove, pollOnce, hval]
      rfl

end Sys2Proof.Machine

/-! A routine with SCL not held, low phase by low phase (R140, R263): two ticks lead from an await for HIGH to the next low
phase, where the routine goes on. -/

namespace Sys2Proof.Machine

open Sys2Proof.Claims

section
variable {s t u : State} {m n : Nat}

/-! Runs one after the other. -/

theorem RunsFor.trans (h : RunsFor m s u) (h' : RunsFor n u t) : RunsFor (m + n) s t := by
  induction m generalizing s with
  | zero =>
    obtain ⟨hruns, -⟩ := h
    rw [runsTo_zero.1 hruns, Nat.zero_add]
    exact h'
  | succ m ih =>
    obtain ⟨hruns, hbusy⟩ := h
    obtain ⟨v, hstep, hrest⟩ := runsTo_succ.1 hruns
    have hlater : RunsFor m v u :=
      ⟨hrest, fun k w hk hw => hbusy (k + 1) w (Nat.succ_lt_succ hk) (runsTo_succ.2 ⟨v, hstep, hw⟩)⟩
    rw [Nat.succ_add]
    exact .cons hstep (hbusy 0 s (Nat.succ_pos m) rfl) (ih hlater)

/-- A run depends on its first state only by the first step. -/
theorem RunsFor.of_step_eq (hstep : step s = step u) (hrun : s.run = true) (h : RunsFor (n + 1) u t) :
    RunsFor (n + 1) s t := by
  obtain ⟨hruns, hbusy⟩ := h
  obtain ⟨v, hv, hrest⟩ := runsTo_succ.1 hruns
  exact .cons (hstep.trans hv) hrun
    ⟨hrest, fun k w hk hw => hbusy (k + 1) w (Nat.succ_lt_succ hk) (runsTo_succ.2 ⟨v, hv, hw⟩)⟩

theorem RunsFor.single (hstep : step s = .next t) (hrun : s.run = true) : RunsFor 1 s t := .cons hstep hrun .zero

/-- A run of a dispatch step and two steps for each tick that ends its command (R11, R263). -/
theorem RunsFor.completesAfter {ticks : Nat} (h : RunsFor n s t) (hn : n = 1 + 2 * ticks) (hend : t.run = false) :
    CompletesAfter ticks s t := by
  subst hn
  obtain ⟨hruns, hbusy⟩ := h
  exact ⟨hruns, hend, hbusy⟩

/-! The low phase. -/

/-- A command runs with its clock, no input is to come, and SCL is not held. -/
structure Unheld (s : State) : Prop where
  clocked : Clocked s
  agenda  : s.agenda = []
  eSclLow : s.eSclLow = false

/-- The same in a low phase. -/
structure LowPhase (s : State) : Prop extends Unheld s where
  phase : s.phase = false

/-- What two ticks that invert leave: the phase as it was, the counters of ticks and cycles at 0 (R103, R104). -/
def calm (s : State) : State := { s with stretchCnt := 0#16, tcnt := 0#32 }

theorem LowPhase.calmed (h : LowPhase s) : LowPhase (calm s) :=
  { h with clocked := { h.clocked with bound := h.clocked.next_phase.bound } }

theorem Clocked.unheldTick_twice (h : Clocked s) : unheldTick (unheldTick s) = calm s := by
  simp [unheldTick, calm, h.sclO]

theorem LowPhase.canPass (h : LowPhase s) (hl : s.upc.awaits = some .low) : s.canPass = true :=
  h.clocked.canPass hl (holds_low h.phase)

/-- An await for HIGH is not passed in a low phase. -/
theorem not_canPass_high_of_phase (hl : s.upc.awaits = some .high) (hp : s.phase = false) : s.canPass = false :=
  not_canPass_of_level hl (not_holds_high hp)

/-- At an await for LOW the routine goes on, as far as the next await that is not passed. -/
theorem LowPhase.step_low (h : LowPhase s) (hl : s.upc.awaits = some .low) : step s = .next (runRoutine s) :=
  h.clocked.step_passes (nextMove_of_nil h.agenda) hl (holds_low h.phase)

theorem LowPhase.step_drives (h : LowPhase s) (hd : s.upc.drives = true) : step s = .next (passAwait s) := by
  have hroutine := runRoutine_of_drives h.clocked.run hd
  rw [h.phase] at hroutine
  rw [h.step_low (Upc.awaits_of_drives hd), hroutine]
  rfl

/-- Where what follows an await for LOW is not passed, or has ended the command, the step stops there. -/
theorem LowPhase.step_stops (h : LowPhase s) (hl : s.upc.awaits = some .low) (hpass : passAwait s = u)
    (hu : u.canPass = false) : step s = .next u := by
  subst hpass
  rw [h.step_low hl, runRoutine_once (h.canPass hl) hu]

/-- Where what follows an await for LOW drives SDA, the step is the one that would be taken there. -/
theorem LowPhase.step_goes_on (h : LowPhase s) (hl : s.upc.awaits = some .low) (hpass : passAwait s = u)
    (hu : LowPhase u) (hd : u.upc.drives = true) : step s = step u := by
  subst hpass
  have hlow := Upc.awaits_of_drives hd
  have hsecond := hu.canPass hlow
  rw [h.step_low hl, runRoutine_twice (h.canPass hl) hsecond
    (not_canPass_high_after_low hsecond hlow (passAwait_drives_awaits hd)), hu.step_drives hd]

/-! From an await for HIGH to the next low phase. -/

/-- What is done at an await for HIGH does not depend on the tick that made it hold. -/
theorem passAwait_unheldTick (hl : s.upc.awaits = some .high) (hnext : (passAwait s).upc.awaits = some .low) :
    passAwait (unheldTick s) = unheldTick (passAwait s) := by
  cases hu : s.upc with
  | stopHigh c => simp [passAwait, hu, Upc.awaits] at hnext
  | bitHigh f k => simp [passAwait, unheldTick, hu]
  | ackHigh f => simp [passAwait, unheldTick, hu, driveSda, sampleSda, State.sdaIn, State.sdaPull]
  | rsHigh r => simp [passAwait, unheldTick, hu, driveSda]
  | rxHigh k => simp [passAwait, unheldTick, hu, driveSda, sampleSda, State.sdaIn, State.sdaPull]
  | mackHigh => simp [passAwait, unheldTick, hu]
  | _ => simp [hu, Upc.awaits] at hl

/-- At an await for HIGH only a stop touches the clock. -/
theorem Clocked.passAwait_high (h : Clocked s) (hl : s.upc.awaits = some .high)
    (hnext : (passAwait s).upc.awaits = some .low) : Clocked (passAwait s) := by
  have hk := passAwait_kept s
  have hclock : (passAwait s).run = s.run ∧ (passAwait s).enabled = s.enabled ∧ (passAwait s).scla = s.scla ∧
      (passAwait s).sclO = s.sclO := by
    cases hu : s.upc with
    | stopHigh c => simp [passAwait, hu, Upc.awaits] at hnext
    | bitHigh f k => simp [passAwait, hu]
    | ackHigh f => simp [passAwait, hu]
    | rsHigh r => simp [passAwait, hu]
    | rxHigh k => simp [passAwait, hu]
    | mackHigh => simp [passAwait, hu]
    | _ => simp [hu, Upc.awaits] at hl
  obtain ⟨hrun, he, hscla, hsclO⟩ := hclock
  exact ⟨hk.rstN.trans h.rstN, hrun.trans h.run, he.trans h.enabled, hscla.trans h.scla,
    hsclO.trans (h.sclO.trans hk.phase.symm), by rw [hk.stretchCnt, hk.tolim]; exact h.bound⟩

theorem LowPhase.passAwait_high (h : LowPhase s) (hl : s.upc.awaits = some .high)
    (hnext : (passAwait s).upc.awaits = some .low) : LowPhase (passAwait s) := by
  have hk := passAwait_kept s
  exact ⟨⟨h.clocked.passAwait_high hl hnext, hk.agenda.trans h.agenda, hk.eSclLow.trans h.eSclLow⟩,
    hk.phase.trans h.phase⟩

/-- The rising tick, the await for HIGH and the falling tick lead to the low phase in which the routine goes on. -/
theorem LowPhase.runsFor_high (h : LowPhase s) (hl : s.upc.awaits = some .high) (hpass : passAwait s = u)
    (hnext : u.upc.awaits = some .low) : RunsFor 3 s (calm u) ∧ LowPhase (calm u) := by
  subst hpass
  have hu := h.passAwait_high hl hnext
  have hcomm := passAwait_unheldTick hl hnext
  have hphase : (unheldTick s).phase = true := congrArg not h.phase
  have hrise := h.clocked.step_ticks (nextMove_of_nil h.agenda) hl (not_holds_high h.phase) (.inl h.phase)
  have hhigh := h.clocked.next_phase.holds_high hphase h.eSclLow
  have htake : step (unheldTick s) = .next (unheldTick (passAwait s)) := by
    rw [h.clocked.next_phase.step_passes (nextMove_of_nil h.agenda) (l := .high) hl hhigh,
      runRoutine_of_phase_high (h.clocked.next_phase.canPass (s := unheldTick s) hl hhigh) hphase, hcomm]
  have hfall := hu.clocked.next_phase.step_ticks (nextMove_of_nil hu.agenda) (l := .low) hnext
    (not_holds_low (congrArg not hu.phase)) (.inr hu.eSclLow)
  rw [hu.clocked.unheldTick_twice] at hfall
  exact ⟨.cons hrise h.clocked.run (.cons htake h.clocked.run (.single hfall hu.clocked.run)), hu.calmed⟩

end
end Sys2Proof.Machine

/-! A whole frame in ticks (R141, R143–R145, R263): eight bits and the acknowledgement check, 18 ticks, and what follows. -/

namespace Sys2Proof.Machine

open Sys2Proof.Claims

section
variable {s t u : State} {f : Frame} {k : Fin 8} {n : Nat} {c : ResultCode} {i : Instr}

theorem LowPhase.sendsBit (h : LowPhase s) (hu : s.upc = .bitLow f k) : SendsBit f k (f.byte s) s :=
  ⟨h.clocked, h.phase, h.agenda, h.eSclLow, hu, rfl⟩

/-- A bit takes two ticks. -/
theorem LowPhase.runsFor_bit (h : LowPhase s) (hu : s.upc = .bitLow f k) :
    RunsFor 4 s (calm (bitTaken f k (bitDriven f k s))) ∧ LowPhase (calm (bitTaken f k (bitDriven f k s))) := by
  have hdriven : LowPhase (bitDriven f k s) := { h with clocked := { h.clocked with } }
  obtain ⟨hruns, hlow⟩ := hdriven.runsFor_high rfl rfl (bitTaken_awaits f k _)
  exact ⟨.cons (h.sendsBit hu).step_drive h.clocked.run hruns, hlow⟩

/-- Bits `k` to 0 of frame `f` have been sent. -/
def bitsSent (f : Frame) (k : Fin 8) (s : State) : State :=
  calm { driveSda (bitDrive ((f.byte s).getLsbD 0)) s with
    state := if k = 7 then f.entered s else s.state
    upc := .ackLow f }

theorem LowPhase.runsFor_bits {hn : n < 8} (h : LowPhase s) (hu : s.upc = .bitLow f ⟨n, hn⟩) :
    RunsFor (4 * (n + 1)) s (bitsSent f ⟨n, hn⟩ s) ∧ LowPhase (bitsSent f ⟨n, hn⟩ s) := by
  induction n generalizing s with
  | zero =>
    have hlast : calm (bitTaken f ⟨0, hn⟩ (bitDriven f ⟨0, hn⟩ s)) = bitsSent f ⟨0, hn⟩ s := rfl
    rw [← hlast]
    exact h.runsFor_bit hu
  | succ n ih =>
    obtain ⟨hfirst, hlow⟩ := h.runsFor_bit hu
    obtain ⟨hrest, hend⟩ := ih (hn := by omega) hlow rfl
    have hbits : bitsSent f ⟨n, by omega⟩ (calm (bitTaken f ⟨n + 1, hn⟩ (bitDriven f ⟨n + 1, hn⟩ s))) =
        bitsSent f ⟨n + 1, hn⟩ s := by
      have hbyte := f.byte_congr (t := calm (bitTaken f ⟨n + 1, hn⟩ (bitDriven f ⟨n + 1, hn⟩ s))) (s := s)
        rfl rfl rfl rfl
      have hmiddle : (⟨n, by omega⟩ : Fin 8) ≠ 7 := Fin.ne_of_val_ne (by simp only; omega)
      rw [bitsSent, hbyte, if_neg hmiddle]
      rfl
    rw [hbits] at hrest hend
    have hall := hfirst.trans hrest
    rw [Nat.add_comm 4] at hall
    exact ⟨hall, hend⟩

/-- Frame `f` has been sent and its acknowledgement sampled; the check is about to return (R143). -/
def frameSent (f : Frame) (s : State) : State :=
  calm { driveSda .hiz s with state := f.entered s, ackr := s.eSdaLow, upc := .ackEnd f }

/-- The acknowledgement check up to its return takes two ticks; the sample is the environment's pull. -/
theorem LowPhase.runsFor_ack (h : LowPhase s) (hu : s.upc = .ackLow f) :
    RunsFor 4 s (calm { driveSda .hiz s with ackr := s.eSdaLow, upc := .ackEnd f }) ∧
      LowPhase (calm { driveSda .hiz s with ackr := s.eSdaLow, upc := .ackEnd f }) := by
  have hdrive := h.step_drives (by rw [hu]; rfl)
  rw [show passAwait s = { driveSda .hiz s with upc := .ackHigh f } by simp only [passAwait, hu]] at hdrive
  have hreleased : LowPhase { driveSda .hiz s with upc := .ackHigh f } := { h with clocked := { h.clocked with } }
  have hsample : passAwait { driveSda .hiz s with upc := .ackHigh f } =
      { driveSda .hiz s with ackr := s.eSdaLow, upc := .ackEnd f } := by
    simp [passAwait, driveSda, sampleSda, State.sdaIn, State.sdaPull]
  obtain ⟨hruns, hlow⟩ := hreleased.runsFor_high rfl hsample rfl
  exact ⟨.cons hdrive h.clocked.run hruns, hlow⟩

/-- A frame takes 18 ticks to the return of its acknowledgement check. -/
theorem LowPhase.runsFor_frame (h : LowPhase s) (hu : s.upc = .bitLow f 7) :
    RunsFor 36 s (frameSent f s) ∧ LowPhase (frameSent f s) := by
  obtain ⟨hbits, hlow⟩ := h.runsFor_bits (n := 7) hu
  obtain ⟨hack, hend⟩ := hlow.runsFor_ack rfl
  exact ⟨hbits.trans hack, hend⟩

/-! The step in which the acknowledgement check of a frame returns, and what it goes on with. -/

theorem passAwait_frameSent_acked (ha : s.eSdaLow = true) :
    passAwait (frameSent f s) = frameAcked f (frameSent f s) :=
  passAwait_acked rfl ha

theorem passAwait_frameSent_nacked (ha : s.eSdaLow = false) :
    passAwait (frameSent f s) = frameNacked f (frameSent f s) :=
  passAwait_nacked rfl ha

/-- Where what follows the check drives SDA, the step that returns it is the first step of that. -/
theorem LowPhase.check_goes_on (h : LowPhase (frameSent f s)) (hpass : passAwait (frameSent f s) = u)
    (hlow : LowPhase u) (hd : u.upc.drives = true) (hruns : RunsFor (n + 1) u t) :
    RunsFor (n + 1) (frameSent f s) t :=
  .of_step_eq (h.step_goes_on rfl hpass hlow hd) h.clocked.run hruns

/-- An acknowledgement that ends the command takes the step that returns it. -/
theorem LowPhase.check_completes (h : LowPhase (frameSent f s)) (ha : s.eSdaLow = true)
    (hok : frameAcked f (frameSent f s) = complete .ok u) : RunsFor 1 (frameSent f s) (complete .ok u) :=
  .single (h.step_stops rfl ((passAwait_frameSent_acked ha).trans hok) (canPass_of_not_running rfl)) h.clocked.run

/-- A stop entered in a low phase ends at the rising tick (R175). -/
def stopDone (c : ResultCode) (s : State) : State :=
  stopped c (unheldTick { driveSda .low s with upc := .stopHigh c })

theorem stopDone_result (c : ResultCode) (s : State) :
    (stopDone c s).result = resultWord (Word.op s.cmd) s.att s.xfer s.nakph c := rfl

theorem LowPhase.runsFor_stop (h : LowPhase s) (hu : s.upc = .stopLow c) : RunsFor 3 s (stopDone c s) := by
  have hdrive := h.step_drives (by rw [hu]; rfl)
  rw [show passAwait s = { driveSda .low s with upc := .stopHigh c } by simp only [passAwait, hu]] at hdrive
  have hpulled : Clocked { driveSda .low s with upc := .stopHigh c } := { h.clocked with }
  exact .cons hdrive h.clocked.run (hpulled.stopHigh_completes rfl h.phase h.agenda h.eSclLow)

/-- A missing acknowledgement that begins a stop takes the step that returns it and the rising tick (R225). -/
theorem LowPhase.check_aborts (h : LowPhase (frameSent f s)) (ha : s.eSdaLow = false)
    (hstop : frameNacked f (frameSent f s) = stopCondition c u) (hlow : LowPhase (stopCondition c u)) :
    RunsFor 3 (frameSent f s) (stopDone c (stopCondition c u)) :=
  h.check_goes_on ((passAwait_frameSent_nacked ha).trans hstop) hlow rfl (hlow.runsFor_stop rfl)

/-- The repeated start has pulled SDA low, and its address frame is due (R174). -/
def restarted (r : Restart) (s : State) : State := { driveSda .low s with upc := .bitLow (.restartAddr r) 7 }

/-- The repeated start and its address frame take 20 ticks to the return of the acknowledgement check (R174). -/
theorem LowPhase.runsFor_restart {r : Restart} (h : LowPhase s) (hu : s.upc = .rsLow r) :
    RunsFor 40 s (frameSent (.restartAddr r) s) ∧ LowPhase (frameSent (.restartAddr r) s) := by
  have hdrive := h.step_drives (by rw [hu]; rfl)
  rw [show passAwait s = { driveSda .hiz s with upc := .rsHigh r } by simp only [passAwait, hu]] at hdrive
  have hreleased : LowPhase { driveSda .hiz s with upc := .rsHigh r } := { h with clocked := { h.clocked with } }
  obtain ⟨hpull, hlow⟩ := hreleased.runsFor_high (u := restarted r s) rfl rfl rfl
  obtain ⟨hframe, hend⟩ := hlow.runsFor_frame rfl
  have hsame : frameSent (.restartAddr r) (calm (restarted r s)) = frameSent (.restartAddr r) s := by cases r <;> rfl
  rw [hsame] at hframe hend
  exact ⟨.trans (m := 4) (.cons hdrive h.clocked.run hpull) hframe, hend⟩

/-! The dispatch (R172), at either phase. -/

/-- The low phase in which a routine begun in `s` goes on: `s` itself, or what a tick leaves of it. -/
def lowered (s : State) : State :=
  { s with
    phase := false, sclO := false
    stretchCnt := if s.phase then 0#16 else s.stretchCnt
    tcnt := if s.phase then 0#32 else s.tcnt }

theorem lowered_of_low (hp : s.phase = false) (hscl : s.sclO = s.phase) : lowered s = s := by
  have hscl' := hscl.trans hp
  cases s
  simp_all [lowered]

theorem lowered_of_high (hp : s.phase = true) : lowered s = unheldTick s := by
  simp [lowered, unheldTick, hp]

theorem Unheld.lowPhase (h : Unheld s) : LowPhase (lowered s) := by
  cases hp : s.phase with
  | false =>
    rw [lowered_of_low hp h.clocked.sclO]
    exact ⟨h, hp⟩
  | true =>
    rw [lowered_of_high hp]
    exact ⟨⟨h.clocked.next_phase, h.agenda, h.eSclLow⟩, congrArg not hp⟩

/-- A command whose routine begins in `u` runs from its dispatch as from the low phase, one tick later at phase 1. -/
theorem runsFor_of_dispatch (h : Accepted i s) (hexec : exec i (clearCounters s) = .next (runRoutine u))
    (hu : Unheld u) (hd : u.upc.drives = true) (hruns : RunsFor (n + 1) (lowered u) t) :
    RunsFor (n + 1 + 2 * late u) s t := by
  obtain ⟨hr, hrun, hupc, hi, ha, -, -⟩ := h
  have hstep := step_exec ⟨nextMove_of_nil ha, hr, hrun, hupc⟩ hi
  rw [hexec, runRoutine_of_drives hu.clocked.run hd] at hstep
  cases hp : u.phase with
  | false =>
    have hlow : LowPhase u := ⟨hu, hp⟩
    rw [lowered_of_low hp hu.clocked.sclO] at hruns
    have hsame : step s = step u := by
      rw [hstep, hlow.step_drives hd, hp]
      rfl
    rw [late, hp]
    exact .of_step_eq hsame hrun hruns
  | true =>
    rw [lowered_of_high hp] at hruns
    have hfall := hu.clocked.step_ticks (nextMove_of_nil hu.agenda) (Upc.awaits_of_drives hd) (not_holds_low hp)
      (.inr hu.eSclLow)
    rw [hp] at hstep
    rw [late, hp]
    exact .cons hstep hrun (.cons hfall hu.clocked.run hruns)

/-- An accepted command in a transaction runs with its clock (R44). -/
theorem unheld_of_accepted (h : Accepted i s) (hact : Active s) : Unheld (clearCounters s) := by
  obtain ⟨hr, hrun, -, -, ha, hscl, hbound⟩ := h
  obtain ⟨-, he, hscla, hsclO⟩ := hact
  exact ⟨⟨hr, hrun, he, hscla, hsclO, hbound⟩, ha, hscl⟩

theorem carries_of_accepted (h : Accepted i s) : Carries s.cmd i := by
  obtain ⟨-, -, -, hi, -⟩ := h
  exact carries_of_decode hi

/-- A command that begins with a repeated start stores its operands first (R178, R180). -/
theorem Unheld.restart_begun (h : Unheld s) (r : Restart) (sa : BitVec 7) (m : Mode) :
    Unheld (restartCondition r { s with sa := sa, mode := m }) :=
  { h with clocked := { h.clocked with } }

end
end Sys2Proof.Machine

/-! BEGIN and RSTART in ticks (R177, R178, R225, R263). -/

namespace Sys2Proof.Machine

open Sys2Proof.Claims

section
variable {s : State}

/-- The stop of a NACK is made in the same low phase (R184, R225). -/
theorem LowPhase.noAckStop (h : LowPhase s) (ph : BitVec 2) : LowPhase (stopCondition .noAck { s with nakph := ph }) :=
  { h with clocked := { h.clocked with } }

/-! BEGIN (R177). -/

/-- The state in which BEGIN's routine begins: the start condition made, the operands stored, the address frame due. -/
def begun (sa : BitVec 7) (ra : Byte) (m : Mode) (s : State) : State :=
  { startCondition { clearCounters s with sa := sa, ra := ra, mode := m } with upc := .bitLow .beginAddr 7 }

variable {sa : BitVec 7} {ra : Byte} {m : Mode}

theorem exec_begin (hconf : s.configured = true) (hidle : s.state = .idle) :
    exec (.beginTx sa ra m) (clearCounters s) = .next (runRoutine (begun sa ra m s)) := by
  have hnot : ¬(!(clearCounters s).configured) = true := by simp [hconf]
  exact congrArg _ ((if_neg hnot).trans (if_neg (not_not.2 hidle)))

/-- At Idle SCL is released, so the clock that BEGIN enables finds it at the phase (R44, R105). -/
theorem begun_unheld (h : Accepted (.beginTx sa ra m) s) (hclk : ClockOk s) (hidle : s.state = .idle) :
    Unheld (begun sa ra m s) := by
  obtain ⟨hr, hrun, -, -, ha, hscl, hbound⟩ := h
  obtain ⟨hen, -, hoff⟩ := hclk
  have hdisabled : s.enabled = false := by
    cases he : s.enabled with
    | false => rfl
    | true => exact absurd hidle (hen.1 he)
  obtain ⟨-, hsclO, -⟩ := hoff hdisabled
  exact ⟨⟨hr, hrun, rfl, rfl, hsclO, BitVec.lt_def.2 (Nat.zero_lt_of_lt (BitVec.lt_def.1 hbound))⟩, ha, hscl⟩

/-- BEGIN's register frame is due, the address frame having been acknowledged. -/
def registerDue (s : State) : State := { s with upc := .bitLow .beginReg 7 }

theorem LowPhase.begin_acked (h : LowPhase s) (hu : s.upc = .bitLow .beginAddr 7) (ha : s.eSdaLow = true) :
    RunsFor 73 s (complete .ok (frameSent .beginReg (registerDue (frameSent .beginAddr s)))) := by
  obtain ⟨haddr, hend⟩ := h.runsFor_frame hu
  have hdue : LowPhase (registerDue (frameSent .beginAddr s)) := { hend with clocked := { hend.clocked with } }
  obtain ⟨hreg, hdone⟩ := hdue.runsFor_frame rfl
  exact haddr.trans (hend.check_goes_on (passAwait_frameSent_acked ha) hdue rfl
    (hreg.trans (hdone.check_completes ha rfl)))

/-- What the stop of a NACK leaves, its phase code recorded (R184, R225). -/
def noAckStopped (ph : BitVec 2) (s : State) : State := stopDone .noAck (stopCondition .noAck { s with nakph := ph })

theorem LowPhase.begin_nacked (h : LowPhase s) (hu : s.upc = .bitLow .beginAddr 7) (ha : s.eSdaLow = false) :
    RunsFor 39 s (noAckStopped 1#2 (frameSent .beginAddr s)) := by
  obtain ⟨haddr, hend⟩ := h.runsFor_frame hu
  exact haddr.trans (hend.check_aborts ha rfl (hend.noAckStop 1#2))

/-! RSTART (R178). -/

theorem LowPhase.rstart_acked (h : LowPhase s) (hu : s.upc = .rsLow .rstart) (ha : s.eSdaLow = true) :
    RunsFor 41 s (complete .ok (frameSent (.restartAddr .rstart) s)) := by
  obtain ⟨haddr, hend⟩ := h.runsFor_restart hu
  exact haddr.trans (hend.check_completes ha rfl)

theorem LowPhase.rstart_nacked (h : LowPhase s) (hu : s.upc = .rsLow .rstart) (ha : s.eSdaLow = false) :
    RunsFor 43 s (noAckStopped 3#2 (frameSent (.restartAddr .rstart) s)) := by
  obtain ⟨haddr, hend⟩ := h.runsFor_restart hu
  exact haddr.trans (hend.check_aborts ha rfl (hend.noAckStop 3#2))

end

/-- Settles O28: two acknowledged frames after the first falling tick. -/
theorem beginCompletesAtTick37 : Obligations.BeginCompletesAtTick37 := by
  unfold Obligations.BeginCompletesAtTick37
  intro sa ra m s hacc hclk hconf hidle hsda
  obtain ⟨hop, -⟩ := carries_of_accepted hacc
  have hu := begun_unheld hacc hclk hidle
  have hruns := runsFor_of_dispatch hacc (exec_begin hconf hidle) hu rfl (hu.lowPhase.begin_acked rfl hsda)
  refine ⟨_, hruns.completesAfter rfl rfl, ?_, rfl, rfl, rfl, rfl, hsda, rfl, rfl, rfl⟩
  change resultWord (Word.op s.cmd) 0#4 0#9 0#2 .ok = _
  rw [hop]
  rfl

/-- Settles O29: the first frame is not acknowledged, and its stop ends at the next rising tick. -/
theorem beginAddressNackStopsAtTick20 : Obligations.BeginAddressNackStopsAtTick20 := by
  unfold Obligations.BeginAddressNackStopsAtTick20
  intro sa ra m s hacc hclk hconf hidle hsda
  obtain ⟨hop, -⟩ := carries_of_accepted hacc
  have hu := begun_unheld hacc hclk hidle
  have hruns := runsFor_of_dispatch hacc (exec_begin hconf hidle) hu rfl (hu.lowPhase.begin_nacked rfl hsda)
  refine ⟨_, hruns.completesAfter rfl rfl, ?_, rfl, rfl, hsda, rfl, rfl⟩
  rw [noAckStopped, stopDone_result]
  change resultWord (Word.op s.cmd) 0#4 0#9 1#2 .noAck = _
  rw [hop]
  rfl

/-- Settles O30: the repeated start, its address frame, and the end of the command or the stop. -/
theorem rstartOutcomes : Obligations.RstartOutcomes := by
  unfold Obligations.RstartOutcomes
  intro sa m s hacc hact
  obtain ⟨hop, -⟩ := carries_of_accepted hacc
  have hu := (unheld_of_accepted hacc hact).restart_begun .rstart sa m
  obtain ⟨hst, hen, -⟩ := hact
  have hexec : exec (.rstart sa m) (clearCounters s) =
      .next (runRoutine (restartCondition .rstart { clearCounters s with sa := sa, mode := m })) :=
    congrArg _ (if_neg hst)
  refine ⟨fun hsda => ?_, fun hsda => ?_⟩
  · have hruns := runsFor_of_dispatch hacc hexec hu rfl (hu.lowPhase.rstart_acked rfl hsda)
    refine ⟨_, hruns.completesAfter (ticks := 20 + late s) ?_ rfl, ?_, ?_, rfl, rfl, rfl, hsda, hen, rfl, rfl⟩
    · change 41 + 2 * late s = _
      omega
    · change resultWord (Word.op s.cmd) 0#4 0#9 0#2 .ok = _
      rw [hop]
      rfl
    · cases m <;> rfl
  · have hruns := runsFor_of_dispatch hacc hexec hu rfl (hu.lowPhase.rstart_nacked rfl hsda)
    refine ⟨_, hruns.completesAfter (ticks := 21 + late s) ?_ rfl, ?_, rfl, rfl, rfl, rfl⟩
    · change 43 + 2 * late s = _
      omega
    · rw [noAckStopped, stopDone_result]
      change resultWord (Word.op s.cmd) 0#4 0#9 3#2 .noAck = _
      rw [hop]
      rfl

end Sys2Proof.Machine

/-! WRITE in ticks (R179, R182, R263): 18 ticks for each frame, and its check goes on in the same low phase. -/

namespace Sys2Proof.Machine

open Sys2Proof.Claims

section
variable {s : State} {a d j : Nat} {n : BitVec 9}

/-! Every byte acknowledged (R179). -/

theorem Unheld.payload_loaded (h : Unheld s) (j : Nat) : Unheld (loadPayload j s) :=
  { h with clocked := { h.clocked with } }

theorem LowPhase.payload_loaded (h : LowPhase s) (j : Nat) : LowPhase (loadPayload j s) :=
  ⟨h.toUnheld.payload_loaded j, h.phase⟩

/-- Byte `j` has been acknowledged and counted. -/
def byteSent (j : Nat) (s : State) : State :=
  { s with
    i := BitVec.ofNat 9 j, txb := s.readTx j, att := 1#4, xfer := BitVec.ofNat 9 (j + 1)
    sdaDrv := .hiz, ackr := s.eSdaLow, upc := .ackEnd .payload, stretchCnt := 0#16, tcnt := 0#32 }

theorem LowPhase.byte_sent (h : LowPhase s) (j : Nat) : LowPhase (byteSent j s) :=
  { h.calmed with clocked := { h.calmed.clocked with } }

/-- The next byte overwrites what the one before it left. -/
theorem byteSent_twice (k j : Nat) (s : State) : byteSent k (byteSent j s) = byteSent k s := by rfl

theorem byteSent_result (j : Nat) (s : State) : (complete .ok (byteSent j s)).result =
    resultWord (Word.op s.cmd) 1#4 (BitVec.ofNat 9 (j + 1)) s.nakph .ok := rfl

/-- The byte in hand is counted (R179). -/
def byteCounted (s : State) : State := { s with xfer := s.i + 1#9 }

theorem byteCounted_frameSent (j : Nat) (s : State) :
    byteCounted (frameSent .payload (loadPayload j s)) = byteSent j s := by
  rw [byteSent, BitVec.ofNat_add]
  rfl

/-- An acknowledged byte is followed by the next one, and the last one completes (R179). -/
theorem frameAcked_payload (hj : j < s.count) :
    frameAcked .payload (frameSent .payload (loadPayload j s)) =
      if j + 1 < s.count then loadPayload (j + 1) (byteSent j s) else complete .ok (byteSent j s) := by
  have hi : (BitVec.ofNat 9 j).toNat = j := toNat_ofNat_of_lt_count hj
  change (if (BitVec.ofNat 9 j).toNat + 1 < s.count then
      loadPayload ((BitVec.ofNat 9 j).toNat + 1) (byteCounted (frameSent .payload (loadPayload j s)))
    else complete .ok (byteCounted (frameSent .payload (loadPayload j s)))) = _
  rw [hi, byteCounted_frameSent]

theorem LowPhase.runsFor_payload (h : LowPhase s) (ha : s.eSdaLow = true) (hd : j + d + 1 = s.count) :
    RunsFor (36 * d + 37) (loadPayload j s) (complete .ok (byteSent (j + d) s)) := by
  induction d generalizing s j with
  | zero =>
    obtain ⟨hframe, hend⟩ := (h.payload_loaded j).runsFor_frame rfl
    have hlast : frameAcked .payload (frameSent .payload (loadPayload j s)) = complete .ok (byteSent j s) := by
      rw [frameAcked_payload (by omega), if_neg (by omega)]
    exact hframe.trans (hend.check_completes ha hlast)
  | succ d ih =>
    obtain ⟨hframe, hend⟩ := (h.payload_loaded j).runsFor_frame rfl
    have hmore : frameAcked .payload (frameSent .payload (loadPayload j s)) = loadPayload (j + 1) (byteSent j s) := by
      rw [frameAcked_payload (by omega), if_pos (by omega)]
    have hleft : j + 1 + d + 1 = s.count := by omega
    have hrest := ih (s := byteSent j s) (j := j + 1) (h.byte_sent j) ha hleft
    rw [byteSent_twice, show j + 1 + d = j + (d + 1) by omega] at hrest
    have hall := hframe.trans (hend.check_goes_on ((passAwait_frameSent_acked (s := loadPayload j s) ha).trans hmore)
      ((h.byte_sent j).payload_loaded (j + 1)) rfl hrest)
    rwa [show 36 + (36 * d + 36 + 1) = 36 * (d + 1) + 37 by omega] at hall

/-! No byte acknowledged (R182). -/

/-- Attempt `a` at the byte in hand is due. -/
def attempt (a : Nat) (s : State) : State := { s with att := BitVec.ofNat 4 a, upc := .bitLow .payload 7 }

theorem LowPhase.attempt_due (h : LowPhase s) (a : Nat) : LowPhase (attempt a s) :=
  { h with clocked := { h.clocked with } }

/-- A byte that is not acknowledged is sent again, and after the tenth attempt the stop follows (R182). -/
theorem frameNacked_payload (ha : a ≤ 10) :
    frameNacked .payload (frameSent .payload (attempt a s)) =
      if a = 10 then stopCondition .maxRetriesExceeded (frameSent .payload (attempt a s))
      else attempt (a + 1) (frameSent .payload (attempt a s)) := by
  have hlimit : BitVec.ofNat 4 a = retryLimit ↔ a = 10 := by
    rw [← BitVec.toNat_inj, BitVec.toNat_ofNat, Nat.mod_eq_of_lt (by omega)]
    rfl
  by_cases hlast : a = 10
  · subst hlast
    rfl
  · rw [if_neg hlast]
    refine (if_neg (mt hlimit.1 hlast)).trans ?_
    rw [attempt, attempt, BitVec.ofNat_add]
    rfl

/-- What the stop after the tenth attempt leaves (R182, R225). -/
def gaveUp (s : State) : State :=
  stopDone .maxRetriesExceeded (stopCondition .maxRetriesExceeded (frameSent .payload (attempt 10 s)))

theorem gaveUp_result (s : State) :
    (gaveUp s).result = resultWord (Word.op s.cmd) 10#4 s.xfer s.nakph .maxRetriesExceeded := by
  rw [gaveUp, stopDone_result]
  rfl

/-- The next attempt overwrites what the one before it left. -/
theorem gaveUp_frameSent (a : Nat) (s : State) : gaveUp (frameSent .payload (attempt a s)) = gaveUp s := by rfl

theorem LowPhase.runsFor_attempts (h : LowPhase s) (hsda : s.eSdaLow = false) (hd : a + d = 10) :
    RunsFor (36 * d + 39) (attempt a s) (gaveUp s) := by
  induction d generalizing s a with
  | zero =>
    obtain rfl : a = 10 := hd
    obtain ⟨hframe, hend⟩ := (h.attempt_due 10).runsFor_frame rfl
    have hlow : LowPhase (stopCondition .maxRetriesExceeded (frameSent .payload (attempt 10 s))) :=
      { hend with clocked := { hend.clocked with } }
    exact hframe.trans (hend.check_aborts hsda (frameNacked_payload (Nat.le_refl 10)) hlow)
  | succ d ih =>
    obtain ⟨hframe, hend⟩ := (h.attempt_due a).runsFor_frame rfl
    have hagain : frameNacked .payload (frameSent .payload (attempt a s)) =
        attempt (a + 1) (frameSent .payload (attempt a s)) := by
      rw [frameNacked_payload (by omega), if_neg (by omega)]
    have hrest := ih (s := frameSent .payload (attempt a s)) (a := a + 1) hend hsda (by omega)
    rw [gaveUp_frameSent] at hrest
    have hall := hframe.trans (hend.check_goes_on ((passAwait_frameSent_nacked (s := attempt a s) hsda).trans hagain)
      (hend.attempt_due (a + 1)) rfl hrest)
    rwa [show 36 + (36 * d + 38 + 1) = 36 * (d + 1) + 39 by omega] at hall

/-! The dispatch of WRITE (R179). -/

/-- WRITE has entered its payload and takes its first byte next. -/
def payloadEntered (s : State) : State := { clearCounters s with state := .payloadPhase }

theorem exec_write (hst : s.state ≠ .idle) (hn : n ≠ 0#9) :
    exec (.write n) (clearCounters s) = .next (runRoutine (loadPayload 0 (payloadEntered s))) :=
  congrArg _ ((if_neg hst).trans (if_neg hn))

theorem payloadEntered_unheld (h : Accepted (.write n) s) (hact : Active s) : Unheld (payloadEntered s) :=
  have hs := unheld_of_accepted h hact
  { hs with clocked := { hs.clocked with } }

end

/-- Settles O31: a frame for each byte, by induction on the bytes still to send. -/
theorem writeTakes18TicksPerByte : Obligations.WriteTakes18TicksPerByte := by
  unfold Obligations.WriteTakes18TicksPerByte
  intro n s hacc hact hn hsda
  obtain ⟨hop, hcount, -⟩ := carries_of_accepted hacc
  have hu := payloadEntered_unheld hacc hact
  obtain ⟨hst, hen, -⟩ := hact
  have hpos : 0 < n.toNat := by bv_omega
  have hleft : 0 + (n.toNat - 1) + 1 = (Word.count s.cmd).toNat := by
    rw [← hcount]
    omega
  have hbytes := hu.lowPhase.runsFor_payload hsda hleft
  have hruns := runsFor_of_dispatch hacc (exec_write hst hn) (hu.payload_loaded 0) rfl hbytes
  refine ⟨_, hruns.completesAfter (ticks := 18 * n.toNat + late s) ?_ rfl, ?_, rfl, hen, rfl, rfl, fun _ => rfl⟩
  · change 36 * (n.toNat - 1) + 37 + 2 * late s = _
    omega
  · rw [byteSent_result]
    change (resultWord (Word.op s.cmd) 1#4 (BitVec.ofNat 9 (0 + (n.toNat - 1) + 1)) 0#2 .ok).toNat = _
    have hxfer : BitVec.ofNat 9 (0 + (n.toNat - 1) + 1) = n := by bv_omega
    rw [hxfer, hop, toNat_resultWord]
    change 0 + 0 * 2 ^ 4 + n.toNat * 2 ^ 8 + 1 * 2 ^ 20 + 4 * 2 ^ 24 = _
    omega

/-- Settles O32: ten attempts at the first byte, by induction on those still to come, and one stop. -/
theorem writeGivesUpAfterTenAttempts : Obligations.WriteGivesUpAfterTenAttempts := by
  unfold Obligations.WriteGivesUpAfterTenAttempts
  intro n s hacc hact hn hsda
  obtain ⟨hop, -⟩ := carries_of_accepted hacc
  have hu := (payloadEntered_unheld hacc hact).payload_loaded 0
  obtain ⟨hst, -⟩ := hact
  have htries := hu.lowPhase.runsFor_attempts (a := 1) (d := 9) hsda rfl
  have hruns := runsFor_of_dispatch hacc (exec_write hst hn) hu rfl htries
  refine ⟨_, hruns.completesAfter (ticks := 181 + late s) ?_ rfl, ?_, rfl, rfl, rfl, rfl⟩
  · change 36 * 9 + 39 + 2 * late s = _
    omega
  · rw [gaveUp_result]
    change resultWord (Word.op s.cmd) 10#4 0#9 0#2 .maxRetriesExceeded = _
    rw [hop]
    rfl

end Sys2Proof.Machine

/-! READ in ticks (R180, R263), SDA held low: the repeated start with its frame, and 18 ticks for each byte of zeros. -/

namespace Sys2Proof.Machine

open Sys2Proof.Claims

section
variable {s u : State} {d j x n : Nat} {k : Fin 8} {mem : Memory}

/-! RXBUF with `d` entries from `j` on written with zeros (R68). -/

/-- Writes of 0 to the `d` entries from `j` on. -/
def zeroFill : Nat → Nat → Memory → Memory
  | _, 0, m     => m
  | j, d + 1, m => zeroFill (j + 1) d (Memory.write m j 0#8)

theorem read_zeroFill_outside (h : x < j ∨ j + d ≤ x) : Memory.read (zeroFill j d mem) x = Memory.read mem x := by
  induction d generalizing j mem with
  | zero => rfl
  | succ d ih => rw [zeroFill, ih (by omega), Memory.read_write_other mem (by omega)]

theorem read_zeroFill_inside (hlo : j ≤ x) (hhi : x < j + d) : Memory.read (zeroFill j d mem) x = some 0#8 := by
  induction d generalizing j mem with
  | zero => omega
  | succ d ih =>
    by_cases hx : x = j
    · rw [zeroFill, read_zeroFill_outside (by omega), hx, Memory.read_write_same]
    · rw [zeroFill, ih (by omega) (by omega)]

/-! A byte whose bits are all 0 (R142, R146). -/

/-- Bit `k` has been sampled as 0, and the low phase that takes it has begun. -/
def zeroSampled (k : Fin 8) (s : State) : State := calm { driveSda .hiz s with upc := .rxLow k false }

theorem LowPhase.runsFor_sample (h : LowPhase s) (hu : s.upc = .rxHigh k) (ha : s.eSdaLow = true) :
    RunsFor 3 s (zeroSampled k s) ∧ LowPhase (zeroSampled k s) := by
  have hpass : passAwait s = { driveSda .hiz s with upc := .rxLow k false } := by
    simp [passAwait, hu, sampleSda, State.sdaIn, ha]
  exact h.runsFor_high (by rw [hu]; rfl) hpass rfl

theorem shiftIn_zero : shiftIn 0#8 false = 0#8 := by decide

/-- A 0 bit that is not the last has been received: the shift register still holds 0. -/
def zeroBitTaken (k : Fin 8) (s : State) : State := calm { driveSda .hiz s with upc := .rxHigh (nextBit k) }

theorem LowPhase.runsFor_zeroBit (h : LowPhase s) (hu : s.upc = .rxHigh k) (ha : s.eSdaLow = true)
    (hrxb : s.rxb = 0#8) (hk : k ≠ 0) : RunsFor 4 s (zeroBitTaken k s) ∧ LowPhase (zeroBitTaken k s) := by
  obtain ⟨hsample, hlow⟩ := h.runsFor_sample hu ha
  have htake := hlow.clocked.step_takeBit (nextMove_of_nil hlow.agenda) rfl hlow.phase hk
  have hsame : { zeroSampled k s with rxb := shiftIn s.rxb false, upc := .rxHigh (nextBit k) } = zeroBitTaken k s := by
    rw [hrxb, shiftIn_zero, ← hrxb]
    rfl
  rw [← hsame]
  exact ⟨hsample.trans (.single htake hlow.clocked.run), { hlow with clocked := { hlow.clocked with } }⟩

/-- Byte `S.i` has been received as 0 and counted, and the master's acknowledgement is on SDA (R146, R147). -/
def zeroByteTaken (s : State) : State :=
  calm { s with
    sdaDrv := bitDrive s.nackBit, upc := .mackHigh
    rxb := 0#8, rxbuf := Memory.write s.rxbuf s.i.toNat 0#8, xfer := s.i + 1#9 }

theorem LowPhase.runsFor_zeroBits {hn : n < 8} (h : LowPhase s) (hu : s.upc = .rxHigh ⟨n, hn⟩)
    (ha : s.eSdaLow = true) (hrxb : s.rxb = 0#8) : RunsFor (4 * (n + 1)) s (zeroByteTaken s) := by
  induction n generalizing s with
  | zero =>
    obtain ⟨hsample, hlow⟩ := h.runsFor_sample hu ha
    have htake := hlow.clocked.step_takeLastBit (nextMove_of_nil hlow.agenda) rfl hlow.phase
    have hbyte : shiftIn (zeroSampled ⟨0, hn⟩ s).rxb false = 0#8 :=
      (congrArg (shiftIn · false) hrxb).trans shiftIn_zero
    rw [hbyte] at htake
    exact hsample.trans (.single htake hlow.clocked.run)
  | succ n ih =>
    obtain ⟨hfirst, hlow⟩ := h.runsFor_zeroBit hu ha hrxb (Fin.ne_of_val_ne (Nat.succ_ne_zero n))
    have hall := hfirst.trans (ih (hn := by omega) hlow rfl ha hrxb)
    rwa [Nat.add_comm 4] at hall

/-! Byte after byte (R180). -/

/-- The byte taken has been acknowledged by the master (R147). -/
def zeroByteAcked (s : State) : State := calm { zeroByteTaken s with upc := .mackEnd }

theorem LowPhase.runsFor_zeroByte (h : LowPhase s) (hu : s.upc = .rxHigh 7) (ha : s.eSdaLow = true)
    (hrxb : s.rxb = 0#8) : RunsFor 35 s (zeroByteAcked s) ∧ LowPhase (zeroByteAcked s) := by
  have htaken : LowPhase (zeroByteTaken s) := { h.calmed with clocked := { h.calmed.clocked with } }
  obtain ⟨hack, hlow⟩ := htaken.runsFor_high (u := { zeroByteTaken s with upc := .mackEnd }) rfl rfl rfl
  exact ⟨(h.runsFor_zeroBits (n := 7) hu ha hrxb).trans hack, hlow⟩

/-- Byte `j` has been received as 0, and SDA is released. -/
def byteRead (j : Nat) (s : State) : State :=
  { s with
    i := BitVec.ofNat 9 j, xfer := BitVec.ofNat 9 (j + 1), rxb := 0#8, rxbuf := Memory.write s.rxbuf j 0#8
    sdaDrv := .hiz, upc := .mackEnd, stretchCnt := 0#16, tcnt := 0#32 }

theorem LowPhase.byte_read (h : LowPhase s) (j : Nat) : LowPhase (byteRead j s) :=
  { h.calmed with clocked := { h.calmed.clocked with } }

theorem LowPhase.receive_begun (h : LowPhase s) (j : Nat) : LowPhase (beginReceive j s) :=
  { h with clocked := { h.clocked with } }

/-- A byte acknowledged by the master is followed by the next one, and the last one completes (R180). -/
theorem passAwait_zeroByteAcked (hj : j < s.count) : passAwait (zeroByteAcked (beginReceive j s)) =
    if j + 1 < s.count then beginReceive (j + 1) (byteRead j s) else complete .ok (byteRead j s) := by
  have hi : (BitVec.ofNat 9 j).toNat = j := toNat_ofNat_of_lt_count hj
  have hread : driveSda .hiz (zeroByteAcked (beginReceive j s)) = byteRead j s := by
    rw [byteRead, BitVec.ofNat_add, show Memory.write s.rxbuf j 0#8 = Memory.write s.rxbuf (BitVec.ofNat 9 j).toNat 0#8
      by rw [hi]]
    rfl
  change (if (BitVec.ofNat 9 j).toNat + 1 < s.count then
      beginReceive ((BitVec.ofNat 9 j).toNat + 1) (driveSda .hiz (zeroByteAcked (beginReceive j s)))
    else complete .ok (driveSda .hiz (zeroByteAcked (beginReceive j s)))) = _
  rw [hi, hread]

/-- A byte takes 18 ticks, up to what follows it. -/
theorem LowPhase.runsFor_byteRead (h : LowPhase s) (ha : s.eSdaLow = true)
    (hpass : passAwait (zeroByteAcked (beginReceive j s)) = u) (hu : u.canPass = false) :
    RunsFor 36 (beginReceive j s) u := by
  obtain ⟨hbyte, hlow⟩ := (h.receive_begun j).runsFor_zeroByte rfl ha rfl
  exact hbyte.trans (.single (hlow.step_stops rfl hpass hu) hlow.clocked.run)

/-- The `d + 1` bytes from `j` on have been received as 0. -/
def bytesRead (j d : Nat) (s : State) : State := { byteRead (j + d) s with rxbuf := zeroFill j (d + 1) s.rxbuf }

theorem bytesRead_result (j d : Nat) (s : State) : (complete .ok (bytesRead j d s)).result =
    resultWord (Word.op s.cmd) s.att (BitVec.ofNat 9 (j + d + 1)) s.nakph .ok := rfl

theorem bytesRead_readRx (j d x : Nat) (s : State) : (complete .ok (bytesRead j d s)).readRx x =
    (Memory.read (zeroFill j (d + 1) s.rxbuf) x).getD (Config.freeRx s.draw x) := rfl

theorem bytesRead_succ (j d : Nat) (s : State) : bytesRead (j + 1) d (byteRead j s) = bytesRead j (d + 1) s := by
  rw [bytesRead, bytesRead, show j + 1 + d = j + (d + 1) by omega]
  rfl

theorem LowPhase.runsFor_bytesRead (h : LowPhase s) (ha : s.eSdaLow = true) (hd : j + d + 1 = s.count) :
    RunsFor (36 * (d + 1)) (beginReceive j s) (complete .ok (bytesRead j d s)) := by
  induction d generalizing s j with
  | zero =>
    have hlast : passAwait (zeroByteAcked (beginReceive j s)) = complete .ok (byteRead j s) := by
      rw [passAwait_zeroByteAcked (by omega), if_neg (by omega)]
    exact h.runsFor_byteRead ha hlast (canPass_of_not_running rfl)
  | succ d ih =>
    have hmore : passAwait (zeroByteAcked (beginReceive j s)) = beginReceive (j + 1) (byteRead j s) := by
      rw [passAwait_zeroByteAcked (by omega), if_pos (by omega)]
    have hbyte := h.runsFor_byteRead ha hmore (not_canPass_high_of_phase rfl h.phase)
    have hleft : j + 1 + d + 1 = s.count := by omega
    have hrest := ih (s := byteRead j s) (j := j + 1) (h.byte_read j) ha hleft
    rw [bytesRead_succ] at hrest
    have hall := hbyte.trans hrest
    rwa [show 36 + 36 * (d + 1) = 36 * (d + 1 + 1) by omega] at hall

/-! The whole of READ. -/

/-- READ's address frame has been acknowledged, and its payload begins (R180). -/
def readAcked (s : State) : State := { frameSent (.restartAddr .read) s with state := .payloadPhase }

theorem bytesRead_enabled (j d : Nat) (s : State) :
    (complete .ok (bytesRead j d (readAcked s))).enabled = s.enabled := by
  simp [bytesRead, byteRead, readAcked, frameSent, calm]

theorem LowPhase.read_acked (h : LowPhase s) (hu : s.upc = .rsLow .read) (ha : s.eSdaLow = true)
    (hd : d + 1 = s.count) : RunsFor (36 * (d + 1) + 41) s (complete .ok (bytesRead 0 d (readAcked s))) := by
  obtain ⟨haddr, hend⟩ := h.runsFor_restart hu
  have hlow : LowPhase (readAcked s) := { hend with clocked := { hend.clocked with } }
  have hpos : 0 < s.count := by omega
  have hpass : passAwait (frameSent (.restartAddr .read) s) = beginReceive 0 (readAcked s) :=
    (passAwait_frameSent_acked ha).trans (if_pos hpos)
  have hstep := hend.step_stops rfl hpass (not_canPass_high_of_phase rfl h.phase)
  have hbytes := hlow.runsFor_bytesRead (j := 0) (d := d) ha (show 0 + d + 1 = s.count by omega)
  have hall := (haddr.trans (.single hstep hend.clocked.run)).trans hbytes
  rwa [Nat.add_comm] at hall

end

/-- Settles O33: the repeated start and its frame, then the bytes, by induction on those still to receive. -/
theorem readFillsRxbuf : Obligations.ReadFillsRxbuf := by
  unfold Obligations.ReadFillsRxbuf
  intro n cap s hacc hact hcap hsda
  obtain ⟨hop, hcount, -, hn, -⟩ := carries_of_accepted hacc
  have hpos : n.toNat - 1 + 1 = n.toNat := by bv_omega
  have hleft : n.toNat - 1 + 1 = (Word.count s.cmd).toNat := by rw [← hcount, hpos]
  have hu := (unheld_of_accepted hacc hact).restart_begun .read s.sa .read
  obtain ⟨hst, hen, -⟩ := hact
  have hexec : exec (.read n cap) (clearCounters s) =
      .next (runRoutine (restartCondition .read { clearCounters s with mode := .read })) :=
    congrArg _ ((if_neg hst).trans (if_neg (BitVec.not_lt.2 hcap)))
  have hbytes := hu.lowPhase.read_acked rfl hsda hleft
  have hruns := runsFor_of_dispatch hacc hexec hu rfl hbytes
  refine ⟨_, hruns.completesAfter (ticks := 20 + 18 * n.toNat + late s) ?_ rfl, ?_, rfl, rfl, hsda,
    (bytesRead_enabled 0 _ _).trans hen, rfl, rfl, fun x hx => ?_, fun x hx => ?_⟩
  · change 36 * (n.toNat - 1 + 1) + 41 + 2 * late s = _
    omega
  · rw [bytesRead_result]
    change (resultWord (Word.op s.cmd) 0#4 (BitVec.ofNat 9 (0 + (n.toNat - 1) + 1)) 0#2 .ok).toNat = _
    have hxfer : BitVec.ofNat 9 (0 + (n.toNat - 1) + 1) = n := by bv_omega
    rw [hxfer, hop, toNat_resultWord]
    change 0 + 0 * 2 ^ 4 + n.toNat * 2 ^ 8 + 0 * 2 ^ 20 + 5 * 2 ^ 24 = _
    omega
  · rw [bytesRead_readRx, read_zeroFill_inside (Nat.zero_le x) (by omega), Option.getD_some]
  · rw [bytesRead_readRx, read_zeroFill_outside (.inr (by omega))]
    rfl

end Sys2Proof.Machine
